-- ==== Sys2Proof/Word.lean ====
section
/-! DEFINITION. The two machine words of the SM83: bytes and 16-bit words (spec/00_scope.md R8). -/

namespace Sys2Proof

/-- An 8-bit value: a register, a byte of memory, an immediate (R8). -/
abbrev Byte := BitVec 8

/-- A 16-bit value: SP, PC, a register pair, an address (R8). -/
abbrev Word := BitVec 16

end Sys2Proof
end

