-- ==== Sys2Proof/Config.lean ====
section
/-! DEFINITION. The parameters of the machine (spec/00_scope.md R10, spec/92_eei_decisions.md). They are plain data that
`State.params` carries and no step changes, so that a statement over every state is a statement over every value of them. -/

namespace Sys2Proof

/-- `STOP_MODE` (R10, R803, D11): what opcode 0x10 does. -/
inductive StopMode where
  | fault  -- the default: raise `Unmodelled(STOP)`
  | nop2   -- consume two bytes and do nothing else
deriving DecidableEq, Repr

/-! ### `BUS`: the environment behind every memory access (R10, R200, D14), given as plain data -/

/-- A range of addresses that are further names of other addresses: a mirror. -/
structure Mirror where
  first : Word
  last  : Word
  /-- The address that `first` names; the others follow it, modulo 2^16. -/
  target : Word
deriving DecidableEq, Repr

/-- How the addresses of a region are served, where it is not as the address map of R220 says. -/
inductive Serve where
  | ram       -- bytes that keep what is stored
  | device    -- registers that keep what is stored until their device changes them
  | openBus   -- no owner (R221)
  | scripted  -- the environment answers every read, and its state moves with it (R200, R207): `State.answers`, log 22
deriving DecidableEq, Repr

/-- A range of addresses served in its own way. -/
structure Region where
  first : Word
  last  : Word
  serve : Serve
deriving DecidableEq, Repr

/-- `BUS` (R10, R200): what departs from the address map of R220 and R221. The first mirror or region that covers an address
counts. IE and IF stay at their addresses whatever the bus (R121). Log 18. -/
structure Bus where
  /-- Addresses that are other names of other addresses. -/
  mirrors : List Mirror
  /-- Addresses served in their own way, after mirrors have been followed. -/
  regions : List Region
  /-- Whether the façade feeds the Timer of R951. -/
  timer   : Bool
deriving DecidableEq, Repr

/-- The spec's default `BUS`: the address map of R220 with the open-bus policy of R221 (D14). -/
def Bus.standard : Bus := { mirrors := [], regions := [], timer := true }

/-- The test `BUS` of spec/95_test_vectors.md: 64 KiB of plain memory with the IE and IF latches, no device. -/
def Bus.flat : Bus := { mirrors := [], regions := [{ first := 0x0000, last := 0xFFFF, serve := .ram }], timer := false }

/-- The default `BUS` with the DMG's mirror of work RAM, which R221 leaves to a model that needs it. -/
def Bus.echo : Bus := { Bus.standard with mirrors := [{ first := 0xE000, last := 0xFDFF, target := 0xC000 }] }

/-- A `BUS` of which nothing is fixed: the environment answers every read but those of IE and IF (D14, "a draw"). -/
def Bus.unknown : Bus := { mirrors := [], regions := [{ first := 0x0000, last := 0xFFFF, serve := .scripted }], timer := false }

/-- The parameters of R10 that stay fixed while the machine runs. `INIT_REGS` and `BOOT_ROM_ENABLED` act at reset only and choose
between `Machine.State.resetNoBoot` and `Machine.State.resetBoot`; `IRQ` is `Machine.State.env`. -/
structure Params where
  /-- `STOP_MODE` (R803). -/
  stopMode  : StopMode
  /-- `BUS` (R200, R221). -/
  bus       : Bus
  /-- Whether the cartridge has RAM at 0xA000–0xBFFF, which R220 calls optional; without it the range is unclaimed. -/
  extRam    : Bool
  /-- The I/O addresses a device claims, beside those the model itself serves (IF, the timer, 0xFF46, 0xFF50); any other
  address of 0xFF00–0xFF7F is open bus (R221). -/
  ioClaimed : List Word
deriving DecidableEq, Repr

/-- The parameters `Machine.State.reset` uses: `STOP_MODE = fault` and the default `BUS` as the spec says (D11, D14).
DESIGN CHOICE (log 1): the cartridge has RAM; the claimed addresses are those R952 names, the two serial registers. -/
def Params.default : Params :=
  { stopMode := .fault, bus := .standard, extRam := true, ioClaimed := [0xFF01, 0xFF02] }

/-- FREE VALUE: the answer to the `n`-th read of a scripted address for which `State.answers` holds none. Nothing is known of it
(R207, D14: "a draw"); log 22. -/
opaque Config.busAnswer : Nat → Byte

/-- What an address that no owner claims reads as (R221, D14). -/
def Config.openBusByte : Byte := 0xFF

end Sys2Proof
end

