-- ==== Sys2Proof/WellFormed.lean ====
section
/-! DEFINITION. Which terms of `Instr` are instructions in canonical form. Every immediate is a bit vector of its field's
width (spec/30_encoding.md R305), so no operand can be out of range; the one check is about the prefix. -/

namespace Sys2Proof

/-- Whether the term is the table's row PREFIX_CB. That row and the 0xCB row its second byte selects are ONE two-byte
instruction (spec/30_encoding.md R316, spec/46_cpu_control.md R802). -/
def Instr.isPrefixRow : Instr → Bool
  | .prefixCb _ => true
  | _ => false

/-- The term is the one the decoder gives for its bytes: the prefix row is not, since the selected row names the same
instruction. DESIGN CHOICE (log 14). -/
def Instr.wellFormed (i : Instr) : Bool := !i.isPrefixRow

end Sys2Proof
end

