-- ==== Sys2Proof/Decode.lean ====
section
/-! DEFINITION. Decoding, by the fields of the opcode byte (spec/30_encoding.md R302 to R316), total on bytes, and after it the
encoder, by the opcode maps (R311, R312). -/

namespace Sys2Proof

/-! ### Bytes of a word -/

/-- Bits 7:0. -/
def Word.lo (w : Word) : Byte := w.setWidth 8

/-- Bits 15:8. -/
def Word.hi (w : Word) : Byte := (w >>> 8).setWidth 8

/-- `hi:lo`. -/
def Word.ofBytes (hi lo : Byte) : Word := hi ++ lo

/-! ### The rows of the table by their operands

Each function names the row that has the given operands; `Instr` has one constructor a row. -/

/-- LD r,r' (R400): destination, source. -/
def Instr.ldRegReg : Reg8 → Reg8 → Instr
  | .b, .b => .ldBB
  | .b, .c => .ldBC
  | .b, .d => .ldBD
  | .b, .e => .ldBE
  | .b, .h => .ldBH
  | .b, .l => .ldBL
  | .b, .a => .ldBA
  | .c, .b => .ldCB
  | .c, .c => .ldCC
  | .c, .d => .ldCD
  | .c, .e => .ldCE
  | .c, .h => .ldCH
  | .c, .l => .ldCL
  | .c, .a => .ldCA
  | .d, .b => .ldDB
  | .d, .c => .ldDC
  | .d, .d => .ldDD
  | .d, .e => .ldDE
  | .d, .h => .ldDH
  | .d, .l => .ldDL
  | .d, .a => .ldDA
  | .e, .b => .ldEB
  | .e, .c => .ldEC
  | .e, .d => .ldED
  | .e, .e => .ldEE
  | .e, .h => .ldEH
  | .e, .l => .ldEL
  | .e, .a => .ldEA
  | .h, .b => .ldHB
  | .h, .c => .ldHC
  | .h, .d => .ldHD
  | .h, .e => .ldHE
  | .h, .h => .ldHH
  | .h, .l => .ldHL
  | .h, .a => .ldHA
  | .l, .b => .ldLB
  | .l, .c => .ldLC
  | .l, .d => .ldLD
  | .l, .e => .ldLE
  | .l, .h => .ldLH
  | .l, .l => .ldLL
  | .l, .a => .ldLA
  | .a, .b => .ldAB
  | .a, .c => .ldAC
  | .a, .d => .ldAD
  | .a, .e => .ldAE
  | .a, .h => .ldAH
  | .a, .l => .ldAL
  | .a, .a => .ldAA

/-- LD r,n8 (R401). -/
def Instr.ldRegImm : Reg8 → Byte → Instr
  | .b, n => .ldBN8 n
  | .c, n => .ldCN8 n
  | .d, n => .ldDN8 n
  | .e, n => .ldEN8 n
  | .h, n => .ldHN8 n
  | .l, n => .ldLN8 n
  | .a, n => .ldAN8 n

/-- LD r,(HL) (R402). -/
def Instr.ldRegMemHl : Reg8 → Instr
  | .b => .ldBMemHl
  | .c => .ldCMemHl
  | .d => .ldDMemHl
  | .e => .ldEMemHl
  | .h => .ldHMemHl
  | .l => .ldLMemHl
  | .a => .ldAMemHl

/-- LD (HL),r (R403). -/
def Instr.ldMemHlReg : Reg8 → Instr
  | .b => .ldMemHlB
  | .c => .ldMemHlC
  | .d => .ldMemHlD
  | .e => .ldMemHlE
  | .h => .ldMemHlH
  | .l => .ldMemHlL
  | .a => .ldMemHlA

/-- LD dd,n16 (R450). -/
def Instr.ldPairImm : PairSp → Word → Instr
  | .bc, n => .ldBcN16 n
  | .de, n => .ldDeN16 n
  | .hl, n => .ldHlN16 n
  | .sp, n => .ldSpN16 n

/-- INC dd (R600). -/
def Instr.incPair : PairSp → Instr
  | .bc => .incBc
  | .de => .incDe
  | .hl => .incHl
  | .sp => .incSp

/-- DEC dd (R601). -/
def Instr.decPair : PairSp → Instr
  | .bc => .decBc
  | .de => .decDe
  | .hl => .decHl
  | .sp => .decSp

/-- ADD HL,dd (R602). -/
def Instr.addHlPair : PairSp → Instr
  | .bc => .addHlBc
  | .de => .addHlDe
  | .hl => .addHlHl
  | .sp => .addHlSp

/-- PUSH qq (R453). -/
def Instr.pushPair : PairAf → Instr
  | .bc => .pushBc
  | .de => .pushDe
  | .hl => .pushHl
  | .af => .pushAf

/-- POP qq (R454) and POP AF (R455). -/
def Instr.popPair : PairAf → Instr
  | .bc => .popBc
  | .de => .popDe
  | .hl => .popHl
  | .af => .popAf

/-- INC r (R540). -/
def Instr.incReg : Reg8 → Instr
  | .b => .incB
  | .c => .incC
  | .d => .incD
  | .e => .incE
  | .h => .incH
  | .l => .incL
  | .a => .incA

/-- DEC r (R542). -/
def Instr.decReg : Reg8 → Instr
  | .b => .decB
  | .c => .decC
  | .d => .decD
  | .e => .decE
  | .h => .decH
  | .l => .decL
  | .a => .decA

/-- The operations on A with a register (R510 to R531). -/
def Instr.aluReg : AluOp → Reg8 → Instr
  | .add, .b => .addAB
  | .add, .c => .addAC
  | .add, .d => .addAD
  | .add, .e => .addAE
  | .add, .h => .addAH
  | .add, .l => .addAL
  | .add, .a => .addAA
  | .adc, .b => .adcAB
  | .adc, .c => .adcAC
  | .adc, .d => .adcAD
  | .adc, .e => .adcAE
  | .adc, .h => .adcAH
  | .adc, .l => .adcAL
  | .adc, .a => .adcAA
  | .sub, .b => .subB
  | .sub, .c => .subC
  | .sub, .d => .subD
  | .sub, .e => .subE
  | .sub, .h => .subH
  | .sub, .l => .subL
  | .sub, .a => .subA
  | .sbc, .b => .sbcAB
  | .sbc, .c => .sbcAC
  | .sbc, .d => .sbcAD
  | .sbc, .e => .sbcAE
  | .sbc, .h => .sbcAH
  | .sbc, .l => .sbcAL
  | .sbc, .a => .sbcAA
  | .and, .b => .andB
  | .and, .c => .andC
  | .and, .d => .andD
  | .and, .e => .andE
  | .and, .h => .andH
  | .and, .l => .andL
  | .and, .a => .andA
  | .xor, .b => .xorB
  | .xor, .c => .xorC
  | .xor, .d => .xorD
  | .xor, .e => .xorE
  | .xor, .h => .xorH
  | .xor, .l => .xorL
  | .xor, .a => .xorA
  | .or, .b => .orB
  | .or, .c => .orC
  | .or, .d => .orD
  | .or, .e => .orE
  | .or, .h => .orH
  | .or, .l => .orL
  | .or, .a => .orA
  | .cp, .b => .cpB
  | .cp, .c => .cpC
  | .cp, .d => .cpD
  | .cp, .e => .cpE
  | .cp, .h => .cpH
  | .cp, .l => .cpL
  | .cp, .a => .cpA

/-- The operations on A with the byte at HL (R511 to R532). -/
def Instr.aluMemHl : AluOp → Instr
  | .add => .addAMemHl
  | .adc => .adcAMemHl
  | .sub => .subMemHl
  | .sbc => .sbcAMemHl
  | .and => .andMemHl
  | .xor => .xorMemHl
  | .or => .orMemHl
  | .cp => .cpMemHl

/-- The operations on A with an immediate (R512 to R533). -/
def Instr.aluImm : AluOp → Byte → Instr
  | .add, n => .addAN8 n
  | .adc, n => .adcAN8 n
  | .sub, n => .subN8 n
  | .sbc, n => .sbcAN8 n
  | .and, n => .andN8 n
  | .xor, n => .xorN8 n
  | .or, n => .orN8 n
  | .cp, n => .cpN8 n

/-- JR cc,e8 (R754). -/
def Instr.jrCond : Cond → Byte → Instr
  | .nz, e => .jrNzE8 e
  | .z, e => .jrZE8 e
  | .nc, e => .jrNcE8 e
  | .c, e => .jrCE8 e

/-- JP cc,a16 (R751). -/
def Instr.jpCond : Cond → Word → Instr
  | .nz, a => .jpNzA16 a
  | .z, a => .jpZA16 a
  | .nc, a => .jpNcA16 a
  | .c, a => .jpCA16 a

/-- CALL cc,a16 (R756). -/
def Instr.callCond : Cond → Word → Instr
  | .nz, a => .callNzA16 a
  | .z, a => .callZA16 a
  | .nc, a => .callNcA16 a
  | .c, a => .callCA16 a

/-- RET cc (R758). -/
def Instr.retCond : Cond → Instr
  | .nz => .retNz
  | .z => .retZ
  | .nc => .retNc
  | .c => .retC

/-- RST t with t = 8 * y (R761). -/
def Instr.rstTo : Fin 8 → Instr
  | 0 => .rst00h
  | 1 => .rst08h
  | 2 => .rst10h
  | 3 => .rst18h
  | 4 => .rst20h
  | 5 => .rst28h
  | 6 => .rst30h
  | 7 => .rst38h

/-- The rotates and shifts of a register (R661 to R675). -/
def Instr.rotReg : RotOp → Reg8 → Instr
  | .rlc, .b => .rlcB
  | .rlc, .c => .rlcC
  | .rlc, .d => .rlcD
  | .rlc, .e => .rlcE
  | .rlc, .h => .rlcH
  | .rlc, .l => .rlcL
  | .rlc, .a => .rlcA
  | .rrc, .b => .rrcB
  | .rrc, .c => .rrcC
  | .rrc, .d => .rrcD
  | .rrc, .e => .rrcE
  | .rrc, .h => .rrcH
  | .rrc, .l => .rrcL
  | .rrc, .a => .rrcA
  | .rl, .b => .rlB
  | .rl, .c => .rlC
  | .rl, .d => .rlD
  | .rl, .e => .rlE
  | .rl, .h => .rlH
  | .rl, .l => .rlL
  | .rl, .a => .rlA
  | .rr, .b => .rrB
  | .rr, .c => .rrC
  | .rr, .d => .rrD
  | .rr, .e => .rrE
  | .rr, .h => .rrH
  | .rr, .l => .rrL
  | .rr, .a => .rrA
  | .sla, .b => .slaB
  | .sla, .c => .slaC
  | .sla, .d => .slaD
  | .sla, .e => .slaE
  | .sla, .h => .slaH
  | .sla, .l => .slaL
  | .sla, .a => .slaA
  | .sra, .b => .sraB
  | .sra, .c => .sraC
  | .sra, .d => .sraD
  | .sra, .e => .sraE
  | .sra, .h => .sraH
  | .sra, .l => .sraL
  | .sra, .a => .sraA
  | .swap, .b => .swapB
  | .swap, .c => .swapC
  | .swap, .d => .swapD
  | .swap, .e => .swapE
  | .swap, .h => .swapH
  | .swap, .l => .swapL
  | .swap, .a => .swapA
  | .srl, .b => .srlB
  | .srl, .c => .srlC
  | .srl, .d => .srlD
  | .srl, .e => .srlE
  | .srl, .h => .srlH
  | .srl, .l => .srlL
  | .srl, .a => .srlA

/-- The rotates and shifts of the byte at HL (R662 to R676). -/
def Instr.rotMemHl : RotOp → Instr
  | .rlc => .rlcMemHl
  | .rrc => .rrcMemHl
  | .rl => .rlMemHl
  | .rr => .rrMemHl
  | .sla => .slaMemHl
  | .sra => .sraMemHl
  | .swap => .swapMemHl
  | .srl => .srlMemHl

/-- BIT b,r (R680). -/
def Instr.bitReg : Fin 8 → Reg8 → Instr
  | 0, .b => .bit0B
  | 0, .c => .bit0C
  | 0, .d => .bit0D
  | 0, .e => .bit0E
  | 0, .h => .bit0H
  | 0, .l => .bit0L
  | 0, .a => .bit0A
  | 1, .b => .bit1B
  | 1, .c => .bit1C
  | 1, .d => .bit1D
  | 1, .e => .bit1E
  | 1, .h => .bit1H
  | 1, .l => .bit1L
  | 1, .a => .bit1A
  | 2, .b => .bit2B
  | 2, .c => .bit2C
  | 2, .d => .bit2D
  | 2, .e => .bit2E
  | 2, .h => .bit2H
  | 2, .l => .bit2L
  | 2, .a => .bit2A
  | 3, .b => .bit3B
  | 3, .c => .bit3C
  | 3, .d => .bit3D
  | 3, .e => .bit3E
  | 3, .h => .bit3H
  | 3, .l => .bit3L
  | 3, .a => .bit3A
  | 4, .b => .bit4B
  | 4, .c => .bit4C
  | 4, .d => .bit4D
  | 4, .e => .bit4E
  | 4, .h => .bit4H
  | 4, .l => .bit4L
  | 4, .a => .bit4A
  | 5, .b => .bit5B
  | 5, .c => .bit5C
  | 5, .d => .bit5D
  | 5, .e => .bit5E
  | 5, .h => .bit5H
  | 5, .l => .bit5L
  | 5, .a => .bit5A
  | 6, .b => .bit6B
  | 6, .c => .bit6C
  | 6, .d => .bit6D
  | 6, .e => .bit6E
  | 6, .h => .bit6H
  | 6, .l => .bit6L
  | 6, .a => .bit6A
  | 7, .b => .bit7B
  | 7, .c => .bit7C
  | 7, .d => .bit7D
  | 7, .e => .bit7E
  | 7, .h => .bit7H
  | 7, .l => .bit7L
  | 7, .a => .bit7A

/-- BIT b,(HL) (R681). -/
def Instr.bitMemHl : Fin 8 → Instr
  | 0 => .bit0MemHl
  | 1 => .bit1MemHl
  | 2 => .bit2MemHl
  | 3 => .bit3MemHl
  | 4 => .bit4MemHl
  | 5 => .bit5MemHl
  | 6 => .bit6MemHl
  | 7 => .bit7MemHl

/-- RES b,r (R682). -/
def Instr.resReg : Fin 8 → Reg8 → Instr
  | 0, .b => .res0B
  | 0, .c => .res0C
  | 0, .d => .res0D
  | 0, .e => .res0E
  | 0, .h => .res0H
  | 0, .l => .res0L
  | 0, .a => .res0A
  | 1, .b => .res1B
  | 1, .c => .res1C
  | 1, .d => .res1D
  | 1, .e => .res1E
  | 1, .h => .res1H
  | 1, .l => .res1L
  | 1, .a => .res1A
  | 2, .b => .res2B
  | 2, .c => .res2C
  | 2, .d => .res2D
  | 2, .e => .res2E
  | 2, .h => .res2H
  | 2, .l => .res2L
  | 2, .a => .res2A
  | 3, .b => .res3B
  | 3, .c => .res3C
  | 3, .d => .res3D
  | 3, .e => .res3E
  | 3, .h => .res3H
  | 3, .l => .res3L
  | 3, .a => .res3A
  | 4, .b => .res4B
  | 4, .c => .res4C
  | 4, .d => .res4D
  | 4, .e => .res4E
  | 4, .h => .res4H
  | 4, .l => .res4L
  | 4, .a => .res4A
  | 5, .b => .res5B
  | 5, .c => .res5C
  | 5, .d => .res5D
  | 5, .e => .res5E
  | 5, .h => .res5H
  | 5, .l => .res5L
  | 5, .a => .res5A
  | 6, .b => .res6B
  | 6, .c => .res6C
  | 6, .d => .res6D
  | 6, .e => .res6E
  | 6, .h => .res6H
  | 6, .l => .res6L
  | 6, .a => .res6A
  | 7, .b => .res7B
  | 7, .c => .res7C
  | 7, .d => .res7D
  | 7, .e => .res7E
  | 7, .h => .res7H
  | 7, .l => .res7L
  | 7, .a => .res7A

/-- RES b,(HL) (R683). -/
def Instr.resMemHl : Fin 8 → Instr
  | 0 => .res0MemHl
  | 1 => .res1MemHl
  | 2 => .res2MemHl
  | 3 => .res3MemHl
  | 4 => .res4MemHl
  | 5 => .res5MemHl
  | 6 => .res6MemHl
  | 7 => .res7MemHl

/-- SET b,r (R684). -/
def Instr.setReg : Fin 8 → Reg8 → Instr
  | 0, .b => .set0B
  | 0, .c => .set0C
  | 0, .d => .set0D
  | 0, .e => .set0E
  | 0, .h => .set0H
  | 0, .l => .set0L
  | 0, .a => .set0A
  | 1, .b => .set1B
  | 1, .c => .set1C
  | 1, .d => .set1D
  | 1, .e => .set1E
  | 1, .h => .set1H
  | 1, .l => .set1L
  | 1, .a => .set1A
  | 2, .b => .set2B
  | 2, .c => .set2C
  | 2, .d => .set2D
  | 2, .e => .set2E
  | 2, .h => .set2H
  | 2, .l => .set2L
  | 2, .a => .set2A
  | 3, .b => .set3B
  | 3, .c => .set3C
  | 3, .d => .set3D
  | 3, .e => .set3E
  | 3, .h => .set3H
  | 3, .l => .set3L
  | 3, .a => .set3A
  | 4, .b => .set4B
  | 4, .c => .set4C
  | 4, .d => .set4D
  | 4, .e => .set4E
  | 4, .h => .set4H
  | 4, .l => .set4L
  | 4, .a => .set4A
  | 5, .b => .set5B
  | 5, .c => .set5C
  | 5, .d => .set5D
  | 5, .e => .set5E
  | 5, .h => .set5H
  | 5, .l => .set5L
  | 5, .a => .set5A
  | 6, .b => .set6B
  | 6, .c => .set6C
  | 6, .d => .set6D
  | 6, .e => .set6E
  | 6, .h => .set6H
  | 6, .l => .set6L
  | 6, .a => .set6A
  | 7, .b => .set7B
  | 7, .c => .set7C
  | 7, .d => .set7D
  | 7, .e => .set7E
  | 7, .h => .set7H
  | 7, .l => .set7L
  | 7, .a => .set7A

/-- SET b,(HL) (R685). -/
def Instr.setMemHl : Fin 8 → Instr
  | 0 => .set0MemHl
  | 1 => .set1MemHl
  | 2 => .set2MemHl
  | 3 => .set3MemHl
  | 4 => .set4MemHl
  | 5 => .set5MemHl
  | 6 => .set6MemHl
  | 7 => .set7MemHl

/-! ### Fields of an opcode byte (R302) -/

/-- `x = op[7:6]`. -/
def opX (op : Byte) : Fin 4 := (op.extractLsb' 6 2).toFin

/-- `y = op[5:3]`. -/
def opY (op : Byte) : Fin 8 := (op.extractLsb' 3 3).toFin

/-- `z = op[2:0]`. -/
def opZ (op : Byte) : Fin 8 := (op.extractLsb' 0 3).toFin

/-- `p = op[5:4]`. -/
def opP (op : Byte) : Fin 4 := (op.extractLsb' 4 2).toFin

/-- `q = op[3]`. -/
def opQ (op : Byte) : Fin 2 := (op.extractLsb' 3 1).toFin

/-! ### Operand codes -/

/-- Code `r`; code 6 names the byte at HL and no register (R303). -/
def Reg8.ofCode : Fin 8 → Option Reg8
  | 0 => some .b
  | 1 => some .c
  | 2 => some .d
  | 3 => some .e
  | 4 => some .h
  | 5 => some .l
  | 6 => none
  | 7 => some .a

/-- Code `dd` (R304). -/
def PairSp.ofCode : Fin 4 → PairSp
  | 0 => .bc
  | 1 => .de
  | 2 => .hl
  | 3 => .sp

/-- Code `qq` (R304). -/
def PairAf.ofCode : Fin 4 → PairAf
  | 0 => .bc
  | 1 => .de
  | 2 => .hl
  | 3 => .af

/-- The ALU operation of field `y` (R307). -/
def AluOp.ofCode : Fin 8 → AluOp
  | 0 => .add
  | 1 => .adc
  | 2 => .sub
  | 3 => .sbc
  | 4 => .and
  | 5 => .xor
  | 6 => .or
  | 7 => .cp

/-- The rotate or shift of field `y` (R312). -/
def RotOp.ofCode : Fin 8 → RotOp
  | 0 => .rlc
  | 1 => .rrc
  | 2 => .rl
  | 3 => .rr
  | 4 => .sla
  | 5 => .sra
  | 6 => .swap
  | 7 => .srl

/-! ### The 0xCB table (R312) -/

/-- The instruction a byte after 0xCB selects. -/
def decodeCb (op : Byte) : Instr :=
  match opX op, Reg8.ofCode (opZ op) with
  | 0, some r => .rotReg (RotOp.ofCode (opY op)) r
  | 0, none   => .rotMemHl (RotOp.ofCode (opY op))
  | 1, some r => .bitReg (opY op) r
  | 1, none   => .bitMemHl (opY op)
  | 2, some r => .resReg (opY op) r
  | 2, none   => .resMemHl (opY op)
  | 3, some r => .setReg (opY op) r
  | 3, none   => .setMemHl (opY op)

/-! ### The unprefixed table by fields (R310) -/

/-- `x = 0`. -/
def decodeX0 (op b1 b2 : Byte) : Instr :=
  let p := PairSp.ofCode (opP op)
  match opZ op with
  | 0 => match opY op with
    | 0 => .nop
    | 1 => .ldMemA16Sp (Word.ofBytes b2 b1)
    | 2 => .stop b1
    | 3 => .jrE8 b1
    | 4 => .jrCond .nz b1
    | 5 => .jrCond .z b1
    | 6 => .jrCond .nc b1
    | 7 => .jrCond .c b1
  | 1 => match opQ op with
    | 0 => .ldPairImm p (Word.ofBytes b2 b1)
    | 1 => .addHlPair p
  | 2 => match opQ op, opP op with
    | 0, 0 => .ldMemBcA
    | 0, 1 => .ldMemDeA
    | 0, 2 => .ldMemHlIncA
    | 0, 3 => .ldMemHlDecA
    | 1, 0 => .ldAMemBc
    | 1, 1 => .ldAMemDe
    | 1, 2 => .ldAMemHlInc
    | 1, 3 => .ldAMemHlDec
  | 3 => match opQ op with
    | 0 => .incPair p
    | 1 => .decPair p
  | 4 => match Reg8.ofCode (opY op) with
    | some r => .incReg r
    | none   => .incMemHl
  | 5 => match Reg8.ofCode (opY op) with
    | some r => .decReg r
    | none   => .decMemHl
  | 6 => match Reg8.ofCode (opY op) with
    | some r => .ldRegImm r b1
    | none   => .ldMemHlN8 b1
  | 7 => match opY op with
    | 0 => .rlca
    | 1 => .rrca
    | 2 => .rla
    | 3 => .rra
    | 4 => .daa
    | 5 => .cpl
    | 6 => .scf
    | 7 => .ccf

/-- `x = 1`: loads between registers and the byte at HL; `y = z = 6` is HALT. -/
def decodeX1 (op : Byte) : Instr :=
  match Reg8.ofCode (opY op), Reg8.ofCode (opZ op) with
  | some r, some r' => .ldRegReg r r'
  | some r, none    => .ldRegMemHl r
  | none,   some r' => .ldMemHlReg r'
  | none,   none    => .halt

/-- `x = 2`: the ALU operation `y` on A with source `z`. -/
def decodeX2 (op : Byte) : Instr :=
  match Reg8.ofCode (opZ op) with
  | some r => .aluReg (AluOp.ofCode (opY op)) r
  | none   => .aluMemHl (AluOp.ofCode (opY op))

/-- `x = 3`. The 11 illegal bytes of R313 stand here. -/
def decodeX3 (op b1 b2 : Byte) : Instr :=
  let w := Word.ofBytes b2 b1
  match opZ op with
  | 0 => match opY op with
    | 0 => .retCond .nz
    | 1 => .retCond .z
    | 2 => .retCond .nc
    | 3 => .retCond .c
    | 4 => .ldhMemA8A b1
    | 5 => .addSpE8 b1
    | 6 => .ldhAMemA8 b1
    | 7 => .ldHlSpE8 b1
  | 1 => match opQ op, opP op with
    | 0, p => .popPair (PairAf.ofCode p)
    | 1, 0 => .ret
    | 1, 1 => .reti
    | 1, 2 => .jpHl
    | 1, 3 => .ldSpHl
  | 2 => match opY op with
    | 0 => .jpCond .nz w
    | 1 => .jpCond .z w
    | 2 => .jpCond .nc w
    | 3 => .jpCond .c w
    | 4 => .ldMemCA
    | 5 => .ldMemA16A w
    | 6 => .ldAMemC
    | 7 => .ldAMemA16 w
  | 3 => match opY op with
    | 0 => .jpA16 w
    | 1 => decodeCb b1
    | 2 => .illegalD3
    | 3 => .illegalDB
    | 4 => .illegalE3
    | 5 => .illegalEB
    | 6 => .di
    | 7 => .ei
  | 4 => match opY op with
    | 0 => .callCond .nz w
    | 1 => .callCond .z w
    | 2 => .callCond .nc w
    | 3 => .callCond .c w
    | 4 => .illegalE4
    | 5 => .illegalEC
    | 6 => .illegalF4
    | 7 => .illegalFC
  | 5 => match opQ op, opP op with
    | 0, p => .pushPair (PairAf.ofCode p)
    | 1, 0 => .callA16 w
    | 1, 1 => .illegalDD
    | 1, 2 => .illegalED
    | 1, 3 => .illegalFD
  | 6 => .aluImm (AluOp.ofCode (opY op)) b1
  | 7 => .rstTo (opY op)

/-- The instruction that starts with byte `op`, when `b1` and `b2` are the two bytes after it (R308, R309). Total: every
byte decodes to something. A byte past the instruction's length is not looked at. -/
def decodeBytes (op b1 b2 : Byte) : Instr :=
  match opX op with
  | 0 => decodeX0 op b1 b2
  | 1 => decodeX1 op
  | 2 => decodeX2 op
  | 3 => decodeX3 op b1 b2

/-! ### Lengths (R300, the second table of R311) -/

/-- The first bytes of the three-byte instructions. -/
def threeByteOpcodes : List Byte :=
  [0x01, 0x11, 0x21, 0x31, 0x08, 0xC2, 0xC3, 0xC4, 0xCA, 0xCC, 0xCD, 0xD2, 0xD4, 0xDA, 0xDC, 0xEA, 0xFA]

/-- The first bytes of the two-byte instructions, the 0xCB byte among them (R316). -/
def twoByteOpcodes : List Byte :=
  [0x10, 0x18, 0x20, 0x28, 0x30, 0x38, 0x06, 0x0E, 0x16, 0x1E, 0x26, 0x2E, 0x36, 0x3E] ++
  [0xC6, 0xCE, 0xD6, 0xDE, 0xE6, 0xEE, 0xF6, 0xFE, 0xCB, 0xE0, 0xF0, 0xE8, 0xF8]

/-- The length in bytes of the instruction that starts with byte `op`. It depends on the first byte alone. An illegal
byte has no length in the table; it is the one byte its rule fetches (R806). -/
def instrLength (op : Byte) : Nat :=
  if op ∈ threeByteOpcodes then 3 else if op ∈ twoByteOpcodes then 2 else 1

/-! ### Decoding a list of bytes -/

/-- Why a list of bytes gives no instruction. Every byte decodes (R309), so the only reason is that the list ends. -/
inductive DecodeError where
  | empty                    -- no byte at all
  | truncated (op : Byte)    -- the instruction that starts with `op` has more bytes than the list
deriving DecidableEq, Repr

/-- The instruction at the head of a list of bytes. -/
inductive DecodeResult where
  | ok (i : Instr) (rest : List Byte)
  | error (e : DecodeError)
deriving DecidableEq, Repr

/-- Decode the instruction at the head of a list of bytes, giving the bytes after it. -/
def decode : List Byte → DecodeResult
  | [] => .error .empty
  | op :: rest =>
    match instrLength op, rest with
    | 1, _               => .ok (decodeBytes op 0 0) rest
    | 2, b1 :: rest'     => .ok (decodeBytes op b1 0) rest'
    | _, b1 :: b2 :: rest' => .ok (decodeBytes op b1 b2) rest'
    | _, _               => .error (.truncated op)

/-- The instruction bytes of a word numbered as spec/opcode_table.json numbers its rows, followed by zeros up to three
bytes. The table numbers bit 0 as the least significant bit of the opcode byte; its only 16-bit rows are those after 0xCB,
which it writes as 0xCBxx, the first byte in bits 15:8. DEDUCED (log 15). -/
def tableBytes (nbits w : Nat) : List Byte :=
  let v := w % 2 ^ nbits
  let lo := BitVec.ofNat 8 v
  let mid := BitVec.ofNat 8 (v / 256)
  if nbits = 16 ∧ mid = 0xCB then [0xCB, lo, 0] else [lo, mid, BitVec.ofNat 8 (v / 65536)]

/-- The instruction the decoder reads from a word of the opcode table. -/
def decodeTableWord (nbits w : Nat) : Option Instr :=
  match decode (tableBytes nbits w) with
  | .ok i _  => some i
  | .error _ => none

/-! ### The encoder (R301, R311, R312) -/

/-- The bytes of an instruction, in fetch order. -/
def encode : Instr → List Byte
  | .nop => [0x00]
  | .ldBcN16 n => [0x01, n.lo, n.hi]
  | .ldMemBcA => [0x02]
  | .incBc => [0x03]
  | .incB => [0x04]
  | .decB => [0x05]
  | .ldBN8 n => [0x06, n]
  | .rlca => [0x07]
  | .ldMemA16Sp a => [0x08, a.lo, a.hi]
  | .addHlBc => [0x09]
  | .ldAMemBc => [0x0A]
  | .decBc => [0x0B]
  | .incC => [0x0C]
  | .decC => [0x0D]
  | .ldCN8 n => [0x0E, n]
  | .rrca => [0x0F]
  | .stop n => [0x10, n]
  | .ldDeN16 n => [0x11, n.lo, n.hi]
  | .ldMemDeA => [0x12]
  | .incDe => [0x13]
  | .incD => [0x14]
  | .decD => [0x15]
  | .ldDN8 n => [0x16, n]
  | .rla => [0x17]
  | .jrE8 e => [0x18, e]
  | .addHlDe => [0x19]
  | .ldAMemDe => [0x1A]
  | .decDe => [0x1B]
  | .incE => [0x1C]
  | .decE => [0x1D]
  | .ldEN8 n => [0x1E, n]
  | .rra => [0x1F]
  | .jrNzE8 e => [0x20, e]
  | .ldHlN16 n => [0x21, n.lo, n.hi]
  | .ldMemHlIncA => [0x22]
  | .incHl => [0x23]
  | .incH => [0x24]
  | .decH => [0x25]
  | .ldHN8 n => [0x26, n]
  | .daa => [0x27]
  | .jrZE8 e => [0x28, e]
  | .addHlHl => [0x29]
  | .ldAMemHlInc => [0x2A]
  | .decHl => [0x2B]
  | .incL => [0x2C]
  | .decL => [0x2D]
  | .ldLN8 n => [0x2E, n]
  | .cpl => [0x2F]
  | .jrNcE8 e => [0x30, e]
  | .ldSpN16 n => [0x31, n.lo, n.hi]
  | .ldMemHlDecA => [0x32]
  | .incSp => [0x33]
  | .incMemHl => [0x34]
  | .decMemHl => [0x35]
  | .ldMemHlN8 n => [0x36, n]
  | .scf => [0x37]
  | .jrCE8 e => [0x38, e]
  | .addHlSp => [0x39]
  | .ldAMemHlDec => [0x3A]
  | .decSp => [0x3B]
  | .incA => [0x3C]
  | .decA => [0x3D]
  | .ldAN8 n => [0x3E, n]
  | .ccf => [0x3F]
  | .ldBB => [0x40]
  | .ldBC => [0x41]
  | .ldBD => [0x42]
  | .ldBE => [0x43]
  | .ldBH => [0x44]
  | .ldBL => [0x45]
  | .ldBMemHl => [0x46]
  | .ldBA => [0x47]
  | .ldCB => [0x48]
  | .ldCC => [0x49]
  | .ldCD => [0x4A]
  | .ldCE => [0x4B]
  | .ldCH => [0x4C]
  | .ldCL => [0x4D]
  | .ldCMemHl => [0x4E]
  | .ldCA => [0x4F]
  | .ldDB => [0x50]
  | .ldDC => [0x51]
  | .ldDD => [0x52]
  | .ldDE => [0x53]
  | .ldDH => [0x54]
  | .ldDL => [0x55]
  | .ldDMemHl => [0x56]
  | .ldDA => [0x57]
  | .ldEB => [0x58]
  | .ldEC => [0x59]
  | .ldED => [0x5A]
  | .ldEE => [0x5B]
  | .ldEH => [0x5C]
  | .ldEL => [0x5D]
  | .ldEMemHl => [0x5E]
  | .ldEA => [0x5F]
  | .ldHB => [0x60]
  | .ldHC => [0x61]
  | .ldHD => [0x62]
  | .ldHE => [0x63]
  | .ldHH => [0x64]
  | .ldHL => [0x65]
  | .ldHMemHl => [0x66]
  | .ldHA => [0x67]
  | .ldLB => [0x68]
  | .ldLC => [0x69]
  | .ldLD => [0x6A]
  | .ldLE => [0x6B]
  | .ldLH => [0x6C]
  | .ldLL => [0x6D]
  | .ldLMemHl => [0x6E]
  | .ldLA => [0x6F]
  | .ldMemHlB => [0x70]
  | .ldMemHlC => [0x71]
  | .ldMemHlD => [0x72]
  | .ldMemHlE => [0x73]
  | .ldMemHlH => [0x74]
  | .ldMemHlL => [0x75]
  | .halt => [0x76]
  | .ldMemHlA => [0x77]
  | .ldAB => [0x78]
  | .ldAC => [0x79]
  | .ldAD => [0x7A]
  | .ldAE => [0x7B]
  | .ldAH => [0x7C]
  | .ldAL => [0x7D]
  | .ldAMemHl => [0x7E]
  | .ldAA => [0x7F]
  | .addAB => [0x80]
  | .addAC => [0x81]
  | .addAD => [0x82]
  | .addAE => [0x83]
  | .addAH => [0x84]
  | .addAL => [0x85]
  | .addAMemHl => [0x86]
  | .addAA => [0x87]
  | .adcAB => [0x88]
  | .adcAC => [0x89]
  | .adcAD => [0x8A]
  | .adcAE => [0x8B]
  | .adcAH => [0x8C]
  | .adcAL => [0x8D]
  | .adcAMemHl => [0x8E]
  | .adcAA => [0x8F]
  | .subB => [0x90]
  | .subC => [0x91]
  | .subD => [0x92]
  | .subE => [0x93]
  | .subH => [0x94]
  | .subL => [0x95]
  | .subMemHl => [0x96]
  | .subA => [0x97]
  | .sbcAB => [0x98]
  | .sbcAC => [0x99]
  | .sbcAD => [0x9A]
  | .sbcAE => [0x9B]
  | .sbcAH => [0x9C]
  | .sbcAL => [0x9D]
  | .sbcAMemHl => [0x9E]
  | .sbcAA => [0x9F]
  | .andB => [0xA0]
  | .andC => [0xA1]
  | .andD => [0xA2]
  | .andE => [0xA3]
  | .andH => [0xA4]
  | .andL => [0xA5]
  | .andMemHl => [0xA6]
  | .andA => [0xA7]
  | .xorB => [0xA8]
  | .xorC => [0xA9]
  | .xorD => [0xAA]
  | .xorE => [0xAB]
  | .xorH => [0xAC]
  | .xorL => [0xAD]
  | .xorMemHl => [0xAE]
  | .xorA => [0xAF]
  | .orB => [0xB0]
  | .orC => [0xB1]
  | .orD => [0xB2]
  | .orE => [0xB3]
  | .orH => [0xB4]
  | .orL => [0xB5]
  | .orMemHl => [0xB6]
  | .orA => [0xB7]
  | .cpB => [0xB8]
  | .cpC => [0xB9]
  | .cpD => [0xBA]
  | .cpE => [0xBB]
  | .cpH => [0xBC]
  | .cpL => [0xBD]
  | .cpMemHl => [0xBE]
  | .cpA => [0xBF]
  | .retNz => [0xC0]
  | .popBc => [0xC1]
  | .jpNzA16 a => [0xC2, a.lo, a.hi]
  | .jpA16 a => [0xC3, a.lo, a.hi]
  | .callNzA16 a => [0xC4, a.lo, a.hi]
  | .pushBc => [0xC5]
  | .addAN8 n => [0xC6, n]
  | .rst00h => [0xC7]
  | .retZ => [0xC8]
  | .ret => [0xC9]
  | .jpZA16 a => [0xCA, a.lo, a.hi]
  | .prefixCb op => [0xCB, op]
  | .callZA16 a => [0xCC, a.lo, a.hi]
  | .callA16 a => [0xCD, a.lo, a.hi]
  | .adcAN8 n => [0xCE, n]
  | .rst08h => [0xCF]
  | .retNc => [0xD0]
  | .popDe => [0xD1]
  | .jpNcA16 a => [0xD2, a.lo, a.hi]
  | .illegalD3 => [0xD3]
  | .callNcA16 a => [0xD4, a.lo, a.hi]
  | .pushDe => [0xD5]
  | .subN8 n => [0xD6, n]
  | .rst10h => [0xD7]
  | .retC => [0xD8]
  | .reti => [0xD9]
  | .jpCA16 a => [0xDA, a.lo, a.hi]
  | .illegalDB => [0xDB]
  | .callCA16 a => [0xDC, a.lo, a.hi]
  | .illegalDD => [0xDD]
  | .sbcAN8 n => [0xDE, n]
  | .rst18h => [0xDF]
  | .ldhMemA8A n => [0xE0, n]
  | .popHl => [0xE1]
  | .ldMemCA => [0xE2]
  | .illegalE3 => [0xE3]
  | .illegalE4 => [0xE4]
  | .pushHl => [0xE5]
  | .andN8 n => [0xE6, n]
  | .rst20h => [0xE7]
  | .addSpE8 e => [0xE8, e]
  | .jpHl => [0xE9]
  | .ldMemA16A a => [0xEA, a.lo, a.hi]
  | .illegalEB => [0xEB]
  | .illegalEC => [0xEC]
  | .illegalED => [0xED]
  | .xorN8 n => [0xEE, n]
  | .rst28h => [0xEF]
  | .ldhAMemA8 n => [0xF0, n]
  | .popAf => [0xF1]
  | .ldAMemC => [0xF2]
  | .di => [0xF3]
  | .illegalF4 => [0xF4]
  | .pushAf => [0xF5]
  | .orN8 n => [0xF6, n]
  | .rst30h => [0xF7]
  | .ldHlSpE8 e => [0xF8, e]
  | .ldSpHl => [0xF9]
  | .ldAMemA16 a => [0xFA, a.lo, a.hi]
  | .ei => [0xFB]
  | .illegalFC => [0xFC]
  | .illegalFD => [0xFD]
  | .cpN8 n => [0xFE, n]
  | .rst38h => [0xFF]
  | .rlcB => [0xCB, 0x00]
  | .rlcC => [0xCB, 0x01]
  | .rlcD => [0xCB, 0x02]
  | .rlcE => [0xCB, 0x03]
  | .rlcH => [0xCB, 0x04]
  | .rlcL => [0xCB, 0x05]
  | .rlcMemHl => [0xCB, 0x06]
  | .rlcA => [0xCB, 0x07]
  | .rrcB => [0xCB, 0x08]
  | .rrcC => [0xCB, 0x09]
  | .rrcD => [0xCB, 0x0A]
  | .rrcE => [0xCB, 0x0B]
  | .rrcH => [0xCB, 0x0C]
  | .rrcL => [0xCB, 0x0D]
  | .rrcMemHl => [0xCB, 0x0E]
  | .rrcA => [0xCB, 0x0F]
  | .rlB => [0xCB, 0x10]
  | .rlC => [0xCB, 0x11]
  | .rlD => [0xCB, 0x12]
  | .rlE => [0xCB, 0x13]
  | .rlH => [0xCB, 0x14]
  | .rlL => [0xCB, 0x15]
  | .rlMemHl => [0xCB, 0x16]
  | .rlA => [0xCB, 0x17]
  | .rrB => [0xCB, 0x18]
  | .rrC => [0xCB, 0x19]
  | .rrD => [0xCB, 0x1A]
  | .rrE => [0xCB, 0x1B]
  | .rrH => [0xCB, 0x1C]
  | .rrL => [0xCB, 0x1D]
  | .rrMemHl => [0xCB, 0x1E]
  | .rrA => [0xCB, 0x1F]
  | .slaB => [0xCB, 0x20]
  | .slaC => [0xCB, 0x21]
  | .slaD => [0xCB, 0x22]
  | .slaE => [0xCB, 0x23]
  | .slaH => [0xCB, 0x24]
  | .slaL => [0xCB, 0x25]
  | .slaMemHl => [0xCB, 0x26]
  | .slaA => [0xCB, 0x27]
  | .sraB => [0xCB, 0x28]
  | .sraC => [0xCB, 0x29]
  | .sraD => [0xCB, 0x2A]
  | .sraE => [0xCB, 0x2B]
  | .sraH => [0xCB, 0x2C]
  | .sraL => [0xCB, 0x2D]
  | .sraMemHl => [0xCB, 0x2E]
  | .sraA => [0xCB, 0x2F]
  | .swapB => [0xCB, 0x30]
  | .swapC => [0xCB, 0x31]
  | .swapD => [0xCB, 0x32]
  | .swapE => [0xCB, 0x33]
  | .swapH => [0xCB, 0x34]
  | .swapL => [0xCB, 0x35]
  | .swapMemHl => [0xCB, 0x36]
  | .swapA => [0xCB, 0x37]
  | .srlB => [0xCB, 0x38]
  | .srlC => [0xCB, 0x39]
  | .srlD => [0xCB, 0x3A]
  | .srlE => [0xCB, 0x3B]
  | .srlH => [0xCB, 0x3C]
  | .srlL => [0xCB, 0x3D]
  | .srlMemHl => [0xCB, 0x3E]
  | .srlA => [0xCB, 0x3F]
  | .bit0B => [0xCB, 0x40]
  | .bit0C => [0xCB, 0x41]
  | .bit0D => [0xCB, 0x42]
  | .bit0E => [0xCB, 0x43]
  | .bit0H => [0xCB, 0x44]
  | .bit0L => [0xCB, 0x45]
  | .bit0MemHl => [0xCB, 0x46]
  | .bit0A => [0xCB, 0x47]
  | .bit1B => [0xCB, 0x48]
  | .bit1C => [0xCB, 0x49]
  | .bit1D => [0xCB, 0x4A]
  | .bit1E => [0xCB, 0x4B]
  | .bit1H => [0xCB, 0x4C]
  | .bit1L => [0xCB, 0x4D]
  | .bit1MemHl => [0xCB, 0x4E]
  | .bit1A => [0xCB, 0x4F]
  | .bit2B => [0xCB, 0x50]
  | .bit2C => [0xCB, 0x51]
  | .bit2D => [0xCB, 0x52]
  | .bit2E => [0xCB, 0x53]
  | .bit2H => [0xCB, 0x54]
  | .bit2L => [0xCB, 0x55]
  | .bit2MemHl => [0xCB, 0x56]
  | .bit2A => [0xCB, 0x57]
  | .bit3B => [0xCB, 0x58]
  | .bit3C => [0xCB, 0x59]
  | .bit3D => [0xCB, 0x5A]
  | .bit3E => [0xCB, 0x5B]
  | .bit3H => [0xCB, 0x5C]
  | .bit3L => [0xCB, 0x5D]
  | .bit3MemHl => [0xCB, 0x5E]
  | .bit3A => [0xCB, 0x5F]
  | .bit4B => [0xCB, 0x60]
  | .bit4C => [0xCB, 0x61]
  | .bit4D => [0xCB, 0x62]
  | .bit4E => [0xCB, 0x63]
  | .bit4H => [0xCB, 0x64]
  | .bit4L => [0xCB, 0x65]
  | .bit4MemHl => [0xCB, 0x66]
  | .bit4A => [0xCB, 0x67]
  | .bit5B => [0xCB, 0x68]
  | .bit5C => [0xCB, 0x69]
  | .bit5D => [0xCB, 0x6A]
  | .bit5E => [0xCB, 0x6B]
  | .bit5H => [0xCB, 0x6C]
  | .bit5L => [0xCB, 0x6D]
  | .bit5MemHl => [0xCB, 0x6E]
  | .bit5A => [0xCB, 0x6F]
  | .bit6B => [0xCB, 0x70]
  | .bit6C => [0xCB, 0x71]
  | .bit6D => [0xCB, 0x72]
  | .bit6E => [0xCB, 0x73]
  | .bit6H => [0xCB, 0x74]
  | .bit6L => [0xCB, 0x75]
  | .bit6MemHl => [0xCB, 0x76]
  | .bit6A => [0xCB, 0x77]
  | .bit7B => [0xCB, 0x78]
  | .bit7C => [0xCB, 0x79]
  | .bit7D => [0xCB, 0x7A]
  | .bit7E => [0xCB, 0x7B]
  | .bit7H => [0xCB, 0x7C]
  | .bit7L => [0xCB, 0x7D]
  | .bit7MemHl => [0xCB, 0x7E]
  | .bit7A => [0xCB, 0x7F]
  | .res0B => [0xCB, 0x80]
  | .res0C => [0xCB, 0x81]
  | .res0D => [0xCB, 0x82]
  | .res0E => [0xCB, 0x83]
  | .res0H => [0xCB, 0x84]
  | .res0L => [0xCB, 0x85]
  | .res0MemHl => [0xCB, 0x86]
  | .res0A => [0xCB, 0x87]
  | .res1B => [0xCB, 0x88]
  | .res1C => [0xCB, 0x89]
  | .res1D => [0xCB, 0x8A]
  | .res1E => [0xCB, 0x8B]
  | .res1H => [0xCB, 0x8C]
  | .res1L => [0xCB, 0x8D]
  | .res1MemHl => [0xCB, 0x8E]
  | .res1A => [0xCB, 0x8F]
  | .res2B => [0xCB, 0x90]
  | .res2C => [0xCB, 0x91]
  | .res2D => [0xCB, 0x92]
  | .res2E => [0xCB, 0x93]
  | .res2H => [0xCB, 0x94]
  | .res2L => [0xCB, 0x95]
  | .res2MemHl => [0xCB, 0x96]
  | .res2A => [0xCB, 0x97]
  | .res3B => [0xCB, 0x98]
  | .res3C => [0xCB, 0x99]
  | .res3D => [0xCB, 0x9A]
  | .res3E => [0xCB, 0x9B]
  | .res3H => [0xCB, 0x9C]
  | .res3L => [0xCB, 0x9D]
  | .res3MemHl => [0xCB, 0x9E]
  | .res3A => [0xCB, 0x9F]
  | .res4B => [0xCB, 0xA0]
  | .res4C => [0xCB, 0xA1]
  | .res4D => [0xCB, 0xA2]
  | .res4E => [0xCB, 0xA3]
  | .res4H => [0xCB, 0xA4]
  | .res4L => [0xCB, 0xA5]
  | .res4MemHl => [0xCB, 0xA6]
  | .res4A => [0xCB, 0xA7]
  | .res5B => [0xCB, 0xA8]
  | .res5C => [0xCB, 0xA9]
  | .res5D => [0xCB, 0xAA]
  | .res5E => [0xCB, 0xAB]
  | .res5H => [0xCB, 0xAC]
  | .res5L => [0xCB, 0xAD]
  | .res5MemHl => [0xCB, 0xAE]
  | .res5A => [0xCB, 0xAF]
  | .res6B => [0xCB, 0xB0]
  | .res6C => [0xCB, 0xB1]
  | .res6D => [0xCB, 0xB2]
  | .res6E => [0xCB, 0xB3]
  | .res6H => [0xCB, 0xB4]
  | .res6L => [0xCB, 0xB5]
  | .res6MemHl => [0xCB, 0xB6]
  | .res6A => [0xCB, 0xB7]
  | .res7B => [0xCB, 0xB8]
  | .res7C => [0xCB, 0xB9]
  | .res7D => [0xCB, 0xBA]
  | .res7E => [0xCB, 0xBB]
  | .res7H => [0xCB, 0xBC]
  | .res7L => [0xCB, 0xBD]
  | .res7MemHl => [0xCB, 0xBE]
  | .res7A => [0xCB, 0xBF]
  | .set0B => [0xCB, 0xC0]
  | .set0C => [0xCB, 0xC1]
  | .set0D => [0xCB, 0xC2]
  | .set0E => [0xCB, 0xC3]
  | .set0H => [0xCB, 0xC4]
  | .set0L => [0xCB, 0xC5]
  | .set0MemHl => [0xCB, 0xC6]
  | .set0A => [0xCB, 0xC7]
  | .set1B => [0xCB, 0xC8]
  | .set1C => [0xCB, 0xC9]
  | .set1D => [0xCB, 0xCA]
  | .set1E => [0xCB, 0xCB]
  | .set1H => [0xCB, 0xCC]
  | .set1L => [0xCB, 0xCD]
  | .set1MemHl => [0xCB, 0xCE]
  | .set1A => [0xCB, 0xCF]
  | .set2B => [0xCB, 0xD0]
  | .set2C => [0xCB, 0xD1]
  | .set2D => [0xCB, 0xD2]
  | .set2E => [0xCB, 0xD3]
  | .set2H => [0xCB, 0xD4]
  | .set2L => [0xCB, 0xD5]
  | .set2MemHl => [0xCB, 0xD6]
  | .set2A => [0xCB, 0xD7]
  | .set3B => [0xCB, 0xD8]
  | .set3C => [0xCB, 0xD9]
  | .set3D => [0xCB, 0xDA]
  | .set3E => [0xCB, 0xDB]
  | .set3H => [0xCB, 0xDC]
  | .set3L => [0xCB, 0xDD]
  | .set3MemHl => [0xCB, 0xDE]
  | .set3A => [0xCB, 0xDF]
  | .set4B => [0xCB, 0xE0]
  | .set4C => [0xCB, 0xE1]
  | .set4D => [0xCB, 0xE2]
  | .set4E => [0xCB, 0xE3]
  | .set4H => [0xCB, 0xE4]
  | .set4L => [0xCB, 0xE5]
  | .set4MemHl => [0xCB, 0xE6]
  | .set4A => [0xCB, 0xE7]
  | .set5B => [0xCB, 0xE8]
  | .set5C => [0xCB, 0xE9]
  | .set5D => [0xCB, 0xEA]
  | .set5E => [0xCB, 0xEB]
  | .set5H => [0xCB, 0xEC]
  | .set5L => [0xCB, 0xED]
  | .set5MemHl => [0xCB, 0xEE]
  | .set5A => [0xCB, 0xEF]
  | .set6B => [0xCB, 0xF0]
  | .set6C => [0xCB, 0xF1]
  | .set6D => [0xCB, 0xF2]
  | .set6E => [0xCB, 0xF3]
  | .set6H => [0xCB, 0xF4]
  | .set6L => [0xCB, 0xF5]
  | .set6MemHl => [0xCB, 0xF6]
  | .set6A => [0xCB, 0xF7]
  | .set7B => [0xCB, 0xF8]
  | .set7C => [0xCB, 0xF9]
  | .set7D => [0xCB, 0xFA]
  | .set7E => [0xCB, 0xFB]
  | .set7H => [0xCB, 0xFC]
  | .set7L => [0xCB, 0xFD]
  | .set7MemHl => [0xCB, 0xFE]
  | .set7A => [0xCB, 0xFF]

end Sys2Proof
end

