-- ==== Sys2Proof/Machine/State.lean ====
section
/-! DEFINITION. The state of the machine (spec/10_state.md, spec/20_memory.md §3, spec/60_exceptions.md §6), as plain data, and
the state after reset (spec/70_reset_and_hazards.md). INVENTORY.md lists every field with its rule. -/

namespace Sys2Proof.Machine

/-- The reasons of R941. A state that carries one is stopped (R113, R906, R940). -/
inductive FaultReason where
  /-- One of the 11 bytes of R313 was executed (R806). -/
  | illegalOpcode (op : Byte)
  /-- STOP was executed under `STOP_MODE = fault` (R803). -/
  | unmodelledStop
deriving DecidableEq, Repr

/-- How a step stops. -/
inductive Fault where
  /-- Raised by `step` alone, from a state whose `fault` field holds the reason: no step exists there (R906). The
  instruction that raised it has already written `fault` and put PC back at its opcode (R940). Safe: the spec says the
  machine is stopped, and the model goes no further. -/
  | stopped (r : FaultReason)
deriving DecidableEq, Repr

/-- How an instruction is turned away. -/
inductive Refusal where
  /-- An instruction the model gives no meaning. Raised by no arm of `exec`: every row of the table has its meaning. Safe. -/
  | notModelled (mnemonic : String)
deriving DecidableEq, Repr

/-- Bytes by address, in one canonical form (`Memory.wf` of Machine/Memory.lean): addresses strictly rising, no entry equal
to what an unlisted address reads as. -/
abbrev Memory := List Host.Cell

/-- The timer device (R951, R952). Log 9. -/
structure Timer where
  /-- DIV, at 0xFF04. -/
  div       : Byte
  /-- Master cycles since DIV last counted, 0..255 ("its sub-cycle carry"). -/
  divPhase  : Nat
  /-- TIMA, at 0xFF05. -/
  tima      : Byte
  /-- TMA, at 0xFF06. -/
  tma       : Byte
  /-- TAC, at 0xFF07: bits 1:0 select the speed, bit 2 enables. -/
  tac       : Byte
  /-- Master cycles since TIMA last counted while enabled (the "prescaler phase"). -/
  timaPhase : Nat
deriving DecidableEq, Repr

/-- What the environment does between two steps (R907, R950, R207): the parameters `IRQ` and `BUS` of R10. Log 6. -/
structure EnvEvent where
  /-- The bits the peripherals set in IF (R950). -/
  irq   : Byte
  /-- New values of locations that devices own, in order. -/
  cells : List (Word × Byte)
deriving DecidableEq, Repr

/-- The whole state. -/
structure State where
  /-- The accumulator (R100). -/
  a : Byte
  /-- The flag register; read it through `State.regF`, which says bits 3:0 are 0 (R104, R105). -/
  f : Byte
  b : Byte
  c : Byte
  d : Byte
  e : Byte
  h : Byte
  l : Byte
  /-- The stack pointer (R102). -/
  sp : Word
  /-- The program counter (R106). -/
  pc : Word
  /-- Interrupt master enable (R110). -/
  ime : Bool
  /-- Set by HALT (R111). -/
  halted : Bool
  /-- `ei_delay`, the pending-enable countdown (R112). -/
  eiDelay : Fin 3
  /-- `fault`, none or the reason the machine stopped (R113). -/
  fault : Option FaultReason
  /-- The interrupt controller's enable latch, at 0xFFFF (R120, R121). -/
  ie : Byte
  /-- The interrupt controller's pending latch IF, at 0xFF0F (R120, R121). -/
  iflag : Byte
  /-- The bytes behind the bus that no other field holds (R220). -/
  mem : Memory
  /-- The boot image (R222). -/
  bootRom : Memory
  /-- Whether the boot image overlays 0x0000–0x00FF (R222). -/
  overlay : Bool
  timer : Timer
  /-- The T-states the latest step returned (R124): `none` before any step, and when no step completed (R806). Log 13. -/
  cost : Option Nat
  /-- The parameters of R10, which no step changes. -/
  params : Params
  /-- The model's own field: what the environment will do after each of the coming steps, one event a step; an empty list
  is an environment that does nothing more. A statement holds for every value of it. Log 6. -/
  env : List EnvEvent
  /-- The model's own field: what the environment will answer to the coming reads of scripted addresses, one byte a read. It is the
  state of such a `BUS`, which a read moves (R200). A statement holds for every value of it. Log 22. -/
  answers : List Byte
  /-- The model's own field: how many reads of scripted addresses found no answer left; each was given the free value
  `Config.busAnswer` of this count. Log 22. -/
  draws : Nat
deriving DecidableEq, Repr

/-- The registers that profile `BOOT_ROM_ENABLED = true` leaves open (`INIT_REGS`, R10, R1002). -/
structure InitRegs where
  a : Byte
  f : Byte
  b : Byte
  c : Byte
  d : Byte
  e : Byte
  h : Byte
  l : Byte
  sp : Word
deriving DecidableEq, Repr

/-- The state of the environment at reset, which the spec does not fix (R1004). -/
structure EnvReset where
  params  : Params
  ie      : Byte
  iflag   : Byte
  mem     : Memory
  bootRom : Memory
  timer   : Timer
  env     : List EnvEvent
  answers : List Byte
  draws   : Nat
deriving DecidableEq, Repr

/-- Reset in profile `BOOT_ROM_ENABLED = false`: the DMG state after its boot ROM has run (R1001, R1003). -/
def State.resetNoBoot (v : EnvReset) : State :=
  { a := 0x01, f := 0xB0, b := 0x00, c := 0x13, d := 0x00, e := 0xD8, h := 0x01, l := 0x4D
    sp := 0xFFFE, pc := 0x0100
    ime := false, halted := false, eiDelay := 0, fault := none
    ie := v.ie, iflag := v.iflag, mem := v.mem, bootRom := v.bootRom, overlay := false, timer := v.timer
    cost := none, params := v.params, env := v.env, answers := v.answers, draws := v.draws }

/-- Reset in profile `BOOT_ROM_ENABLED = true`, for any `INIT_REGS`, whose F has its low nibble cleared (R1002, R1003); the
overlay is active (R1004). -/
def State.resetBoot (r : InitRegs) (v : EnvReset) : State :=
  { a := r.a, f := r.f &&& 0xF0, b := r.b, c := r.c, d := r.d, e := r.e, h := r.h, l := r.l
    sp := r.sp, pc := 0x0000
    ime := false, halted := false, eiDelay := 0, fault := none
    ie := v.ie, iflag := v.iflag, mem := v.mem, bootRom := v.bootRom, overlay := true, timer := v.timer
    cost := none, params := v.params, env := v.env, answers := v.answers, draws := v.draws }

/-- The timer registers at reset. DESIGN CHOICE: all zero (log 4). -/
def Timer.reset : Timer := { div := 0, divPhase := 0, tima := 0, tma := 0, tac := 0, timaPhase := 0 }

/-- The environment `State.reset` starts with. PRESUMED: IE = 0x00 and IF = 0xE1, the DMG values R1004 gives for reference
(log 3). DESIGN CHOICE: no boot image (log 2), nothing listed in memory (log 5), a quiet environment (log 6), no answers laid
down for scripted addresses (log 22). -/
def EnvReset.default : EnvReset :=
  { params := Params.default, ie := 0x00, iflag := 0xE1, mem := [], bootRom := [], timer := Timer.reset, env := [],
    answers := [], draws := 0 }

/-- The machine right after reset, profile `BOOT_ROM_ENABLED = false` (DESIGN CHOICE between the two profiles, log 2). -/
def State.reset : State := State.resetNoBoot EnvReset.default

end Sys2Proof.Machine
end

