-- ==== Sys2Proof/Machine/Memory.lean ====
section
/-! DEFINITION. Reading and writing one byte of a memory in canonical form, and the form itself. -/

namespace Sys2Proof.Machine

/-- What a byte that nothing has written reads as: 0 in cartridge RAM (R1004); DESIGN CHOICE 0 elsewhere (log 5). -/
def Memory.unlisted : Byte := 0x00

/-- The byte at an address. -/
def Memory.read : Memory → Nat → Byte
  | [], _ => Memory.unlisted
  | (k, v) :: rest, a => if a = k then v else Memory.read rest a

/-- Put one entry before the rest of a memory, unless it says what an unlisted address says. -/
def Memory.put (a : Nat) (v : Byte) (rest : Memory) : Memory :=
  if v = Memory.unlisted then rest else (a, v) :: rest

/-- The memory with one byte changed, in canonical form if it was. -/
def Memory.write : Memory → Nat → Byte → Memory
  | [], a, v => Memory.put a v []
  | (k, w) :: rest, a, v =>
    if a < k then Memory.put a v ((k, w) :: rest)
    else if a = k then Memory.put a v rest
    else (k, w) :: Memory.write rest a v

/-- The canonical form from address `lo` on: addresses strictly rising from `lo`, inside the 64 KiB space, no entry equal to
what an unlisted address reads as. -/
def Memory.wfFrom : Nat → Memory → Bool
  | _, [] => true
  | lo, (k, v) :: rest => decide (lo ≤ k) && decide (k < 65536) && decide (v ≠ Memory.unlisted) && Memory.wfFrom (k + 1) rest

/-- The canonical form. -/
def Memory.wf (m : Memory) : Bool := Memory.wfFrom 0 m

/-- The memory that holds `bytes` from address `a` on. -/
def Memory.ofBytes (m : Memory) : Nat → List Byte → Memory
  | _, [] => m
  | a, v :: rest => Memory.ofBytes (Memory.write m a v) (a + 1) rest

end Sys2Proof.Machine
end

