-- ==== Sys2Proof/Machine/Bus.lean ====
section
/-! DEFINITION. The bus: who owns an address (spec/20_memory.md R220, R221) behind the parameter `BUS` (R200), one byte read and one
byte written with the side effects the spec names (R207, R222, R223, spec/60_exceptions.md R951), and what the devices do between
steps (R907). -/

namespace Sys2Proof.Machine

/-! ### Owners of addresses -/

/-- The owner of an address, as far as the bus treats owners differently. -/
inductive Owner where
  | rom               -- cartridge ROM, under the boot overlay while that is active
  | vram
  | extRam            -- cartridge RAM
  | workRam
  | oam
  | device            -- an I/O register of a device that is environment
  | highRam
  | openBus           -- no owner (R221)
  | interruptEnable   -- IE
  | interruptFlag     -- IF
  | div
  | tima
  | tma
  | tac
  | dmaTrigger
  | bootDisable
  | scripted          -- the environment answers (R200, R207)
deriving DecidableEq, Repr

/-- The owner of an I/O address, 0xFF00–0xFF7F (R952). An address no device claims is open bus (R221). -/
def ioOwner (p : Params) (a : Word) : Owner :=
  if a = 0xFF0F then .interruptFlag
  else if a = 0xFF04 then .div
  else if a = 0xFF05 then .tima
  else if a = 0xFF06 then .tma
  else if a = 0xFF07 then .tac
  else if a = 0xFF46 then .dmaTrigger
  else if a = 0xFF50 then .bootDisable
  else if a ∈ p.ioClaimed then .device
  else .openBus

/-- The address map of R220 with the policy of R221. -/
def standardOwner (p : Params) (a : Word) : Owner :=
  if a < 0x8000 then .rom
  else if a < 0xA000 then .vram
  else if a < 0xC000 then (if p.extRam then .extRam else .openBus)
  else if a < 0xE000 then .workRam
  else if a < 0xFE00 then .openBus
  else if a < 0xFEA0 then .oam
  else if a < 0xFF00 then .openBus
  else if a < 0xFF80 then ioOwner p a
  else if a < 0xFFFF then .highRam
  else .interruptEnable

/-- Whether a range of addresses covers one. -/
def covers (first last a : Word) : Bool := decide (first ≤ a) && decide (a ≤ last)

/-- The address that an address names: itself, or where a mirror of the bus leads. IE and IF are never mirrored away (R121). -/
def resolve (p : Params) (a : Word) : Word :=
  if a = 0xFFFF ∨ a = 0xFF0F then a
  else match p.bus.mirrors.find? fun m => covers m.first m.last a with
    | some m => m.target + (a - m.first)
    | none => a

/-- The owner a way of serving stands for. -/
def serveOwner : Serve → Owner
  | .ram => .workRam
  | .device => .device
  | .openBus => .openBus
  | .scripted => .scripted

/-- The owner of an address that is no mirror: the two latches (R121), then the regions of the bus, then the address map. -/
def ownerAt (p : Params) (a : Word) : Owner :=
  if a = 0xFFFF then .interruptEnable
  else if a = 0xFF0F then .interruptFlag
  else match p.bus.regions.find? fun r => covers r.first r.last a with
    | some r => serveOwner r.serve
    | none => standardOwner p a

/-- The owner of an address behind the machine's bus. -/
def owner (p : Params) (a : Word) : Owner := ownerAt p (resolve p a)

/-- Whether the byte at an address that is no mirror is held in `mem`. -/
def memBacked (p : Params) (a : Word) : Bool :=
  match ownerAt p a with
  | .rom | .vram | .extRam | .workRam | .oam | .device | .highRam | .dmaTrigger | .bootDisable => true
  | .openBus | .interruptEnable | .interruptFlag | .div | .tima | .tma | .tac | .scripted => false

/-- Whether a read of address `b` may answer differently after one byte was stored at `a`, the OAM copy apart: the same location, and
what the side effects of R207 reach (the boot image by 0xFF50, TIMA by TAC). -/
def byteTouches (p : Params) (a b : Word) : Bool :=
  resolve p b == resolve p a ||
  match owner p a with
  | .bootDisable => decide (resolve p b < 0x0100)
  | .tac => resolve p b == 0xFF05
  | _ => false

/-- The same with the OAM copy, which stores 160 bytes, and moves on the answers of the scripted addresses it reads. -/
def storeTouches (p : Params) (a b : Word) : Bool :=
  byteTouches p a b ||
  match owner p a with
  | .dmaTrigger => (owner p b == .scripted) || (List.range 160).any fun n => byteTouches p (0xFE00 + BitVec.ofNat 16 n) b
  | _ => false

/-! ### The timer (R951) -/

/-- T-states between two counts of TIMA, by TAC's low two bits. -/
def Timer.period (tac : Byte) : Nat :=
  match (tac.extractLsb' 0 2).toFin with
  | 0 => 1024
  | 1 => 16
  | 2 => 64
  | 3 => 256

/-- TAC's enable bit. -/
def Timer.enabled (t : Timer) : Bool := t.tac.getLsbD 2

/-- A write to DIV, of any value. -/
def Timer.resetDiv (t : Timer) : Timer := { t with div := 0, divPhase := 0 }

/-- A write to TAC: a change of the speed-select bits resets the prescaler phase and reloads TIMA from TMA. -/
def Timer.writeTac (t : Timer) (v : Byte) : Timer :=
  if v.extractLsb' 0 2 = t.tac.extractLsb' 0 2 then { t with tac := v }
  else { t with tac := v, timaPhase := 0, tima := t.tma }

/-- TIMA counts `n` times; the second component says whether it overflowed. -/
def Timer.count : Nat → Timer → Timer × Bool
  | 0, t => (t, false)
  | n + 1, t =>
    let r := Timer.count n t
    if r.1.tima = 0xFF then ({ r.1 with tima := r.1.tma }, true) else ({ r.1 with tima := r.1.tima + 1 }, r.2)

/-- DIV after `n` T-states. -/
def Timer.advanceDiv (t : Timer) (n : Nat) : Timer :=
  { t with div := t.div + BitVec.ofNat 8 ((t.divPhase + n) / 256), divPhase := (t.divPhase + n) % 256 }

/-- TIMA after `n` T-states, and whether it overflowed. It stands still while the enable bit is clear. -/
def Timer.advanceTima (t : Timer) (n : Nat) : Timer × Bool :=
  if t.enabled then
    Timer.count ((t.timaPhase + n) / Timer.period t.tac) { t with timaPhase := (t.timaPhase + n) % Timer.period t.tac }
  else (t, false)

/-- The timer after `n` T-states, and whether it raises its interrupt. -/
def Timer.advance (t : Timer) (n : Nat) : Timer × Bool := (t.advanceDiv n).advanceTima n

/-! ### One byte read, one byte written -/

/-- Change one byte of `mem`, at an address that is no mirror. -/
def State.poke (s : State) (a : Word) (v : Byte) : State := { s with mem := s.mem.write a.toNat v }

/-- The byte `MemRead(addr, 1)` returns (R200). What the read changes is `State.afterRead`. -/
def State.read (s : State) (a : Word) : Byte :=
  let b := resolve s.params a
  match ownerAt s.params b with
  | .rom => if s.overlay && decide (b < 0x0100) then s.bootRom.read b.toNat else s.mem.read b.toNat
  | .vram | .extRam | .workRam | .oam | .device | .highRam | .dmaTrigger | .bootDisable => s.mem.read b.toNat
  | .openBus => Config.openBusByte
  | .interruptEnable => s.ie
  | .interruptFlag => s.iflag
  | .div => s.timer.div
  | .tima => s.timer.tima
  | .tma => s.timer.tma
  | .tac => s.timer.tac
  | .scripted => s.answers.headD (Config.busAnswer s.draws)

/-- The state `MemRead(addr, 1)` leaves (R200: "A read may change `BUS` state"). A read of a scripted address takes the
environment's next answer; the other owners have no read side effect (R207 names none; log 8). -/
def State.afterRead (s : State) (a : Word) : State :=
  match owner s.params a with
  | .scripted =>
    match s.answers with
    | [] => { s with draws := s.draws + 1 }
    | _ :: rest => { s with answers := rest }
  | _ => s

/-- One byte stored, the OAM copy apart: a store to ROM reaches the cartridge and changes no byte of it (R226, R1023; log 7), an
unclaimed address ignores it (R221), DIV resets, TAC may reload TIMA, 0xFF50 ends the boot overlay. A store to a scripted address
reaches the environment, whose later answers and events are data of their own (log 22). -/
def State.store (s : State) (a : Word) (v : Byte) : State :=
  let b := resolve s.params a
  match ownerAt s.params b with
  | .rom | .openBus | .scripted => s
  | .vram | .extRam | .workRam | .oam | .device | .highRam | .dmaTrigger => s.poke b v
  | .interruptEnable => { s with ie := v }
  | .interruptFlag => { s with iflag := v }
  | .div => { s with timer := s.timer.resetDiv }
  | .tima => { s with timer := { s.timer with tima := v } }
  | .tma => { s with timer := { s.timer with tma := v } }
  | .tac => { s with timer := s.timer.writeTac v }
  | .bootDisable => { s.poke b v with overlay := false }

/-- The first `n` bytes of the OAM DMA copy from `src << 8`, read and stored through the bus (R223). -/
def State.dmaCopy (src : Byte) : Nat → State → State
  | 0, s => s
  | n + 1, s =>
    let t := State.dmaCopy src n s
    let x := Word.ofBytes src (BitVec.ofNat 8 n)
    (t.afterRead x).store (0xFE00 + BitVec.ofNat 16 n) (t.read x)

/-- `MemWrite(addr, 1, v)` (R200) with the side effects of R207; 0xFF46 copies 160 bytes into OAM before it returns (R223). -/
def State.write (s : State) (a : Word) (v : Byte) : State :=
  match owner s.params a with
  | .dmaTrigger => State.dmaCopy v 160 (s.store a v)
  | _ => s.store a v

/-! ### Between two steps (R907) -/

/-- A device gives one of its locations a new value: cartridge ROM and RAM (bank switching), VRAM, OAM and I/O registers.
In IE and IF only the bits 7:5, which no interrupt uses, change this way (93_implementation_defined.md U9, log 17). No
device changes work RAM, high RAM or the timer's registers; log 6. -/
def State.deviceSet (s : State) (a : Word) (v : Byte) : State :=
  let b := resolve s.params a
  match ownerAt s.params b with
  | .rom | .vram | .extRam | .oam | .device | .dmaTrigger | .bootDisable => s.poke b v
  | .interruptEnable => { s with ie := (s.ie &&& 0x1F) ||| (v &&& 0xE0) }
  | .interruptFlag => { s with iflag := (s.iflag &&& 0x1F) ||| (v &&& 0xE0) }
  | .workRam | .highRam | .openBus | .div | .tima | .tma | .tac | .scripted => s

/-- The Timer, where the bus has it, takes the step's cost; its interrupt is IF bit 2 (R950, R951). -/
def State.timerElapse (s : State) : State :=
  match s.params.bus.timer with
  | true =>
    let r := s.timer.advance (s.cost.getD 0)
    { s with timer := r.1, iflag := if r.2 then s.iflag ||| 0x04 else s.iflag }
  | false => s

/-- The environment's next event: new values of device locations, then interrupt requests. -/
def State.envElapse (s : State) : State :=
  match s.env with
  | [] => s
  | v :: rest =>
    let t := v.cells.foldl (fun t c => t.deviceSet c.1 c.2) { s with env := rest }
    { t with iflag := t.iflag ||| v.irq }

/-- What the façade does after a step has returned its cost: the Timer first, then the other devices (R907). -/
def State.elapse (s : State) : State := s.timerElapse.envElapse

end Sys2Proof.Machine
end

