-- ==== Sys2Proof/Machine/Operands.lean ====
section
/-! DEFINITION. The operand forms (spec/30_encoding.md R303 to R306): registers, pairs and addresses. Each register has one
home in State and is read and written here. -/

namespace Sys2Proof.Machine

/-! ### The flag register's byte -/

/-- F as every reader sees it: bits 3:0 are hard-wired 0 (R105). -/
def State.regF (s : State) : Byte := s.f &&& 0xF0

/-- A write to F stores bits 7:4 and discards the rest (R105). -/
def State.setF (s : State) (v : Byte) : State := { s with f := v &&& 0xF0 }

/-! ### 8-bit registers (R303) -/

/-- `x[r]` for a code that names a register. -/
def State.reg (s : State) : Reg8 → Byte
  | .b => s.b
  | .c => s.c
  | .d => s.d
  | .e => s.e
  | .h => s.h
  | .l => s.l
  | .a => s.a

/-- `x[r] <- v`. -/
def State.setReg (s : State) (r : Reg8) (v : Byte) : State :=
  match r with
  | .b => { s with b := v }
  | .c => { s with c := v }
  | .d => { s with d := v }
  | .e => { s with e := v }
  | .h => { s with h := v }
  | .l => { s with l := v }
  | .a => { s with a := v }

/-! ### Pairs: the first-named register is the high byte, and a pair has no state of its own (R101) -/

def State.bc (s : State) : Word := Word.ofBytes s.b s.c
def State.de (s : State) : Word := Word.ofBytes s.d s.e
def State.hl (s : State) : Word := Word.ofBytes s.h s.l
def State.af (s : State) : Word := Word.ofBytes s.a s.regF

def State.setBc (s : State) (w : Word) : State := { s with b := w.hi, c := w.lo }
def State.setDe (s : State) (w : Word) : State := { s with d := w.hi, e := w.lo }
def State.setHl (s : State) (w : Word) : State := { s with h := w.hi, l := w.lo }

/-- A write to AF keeps F[3:0] = 0 (R105, R455). -/
def State.setAf (s : State) (w : Word) : State := { s.setF w.lo with a := w.hi }

/-- `xx[dd]`, the SP table (R304). -/
def State.pairSp (s : State) : PairSp → Word
  | .bc => s.bc
  | .de => s.de
  | .hl => s.hl
  | .sp => s.sp

/-- `xx[dd] <- w`. -/
def State.setPairSp (s : State) (p : PairSp) (w : Word) : State :=
  match p with
  | .bc => s.setBc w
  | .de => s.setDe w
  | .hl => s.setHl w
  | .sp => { s with sp := w }

/-- `qq[q]`, the AF table (R304). -/
def State.pairAf (s : State) : PairAf → Word
  | .bc => s.bc
  | .de => s.de
  | .hl => s.hl
  | .af => s.af

/-- `qq[q] <- w`. -/
def State.setPairAf (s : State) (p : PairAf) (w : Word) : State :=
  match p with
  | .bc => s.setBc w
  | .de => s.setDe w
  | .hl => s.setHl w
  | .af => s.setAf w

/-! ### Immediates and addresses (R305) -/

/-- `sext_16(e8)`. -/
def signExtend16 (e : Byte) : Word := e.signExtend 16

/-- `0xFF00 + n`, the high page: the address of LDH and LD (C). -/
def highPage (n : Byte) : Word := Word.ofBytes 0xFF n

end Sys2Proof.Machine
end

