-- ==== Sys2Proof/Machine/Flags.lean ====
section
/-! DEFINITION. The flags (spec/10_state.md R104 to R108) and every computation that produces them: the shared functions
add8, sub8, the logical ones, increment and decrement, DAA (spec/42_alu8.md), ADD HL and spe8 (spec/43_alu16.md), the rotates
and shifts (spec/44_rotate_shift_bit.md R660). Sums are exact naturals or integers, narrowed at the end. -/

namespace Sys2Proof.Machine

/-- The four flags, bits 7..4 of F (R104). -/
structure Flags where
  z : Bool
  n : Bool
  h : Bool
  c : Bool
deriving DecidableEq, Repr

/-- The flags as the byte of F. -/
def Flags.byte (fl : Flags) : Byte :=
  (if fl.z then 0x80 else 0) ||| (if fl.n then 0x40 else 0) ||| (if fl.h then 0x20 else 0) ||| (if fl.c then 0x10 else 0)

/-- The flags F holds. -/
def State.flags (s : State) : Flags :=
  { z := s.f.getLsbD 7, n := s.f.getLsbD 6, h := s.f.getLsbD 5, c := s.f.getLsbD 4 }

/-- Write all four flags. -/
def State.setFlags (s : State) (fl : Flags) : State := s.setF fl.byte

/-- `cond(cc)` (R306). -/
def Flags.cond (fl : Flags) : Cond → Bool
  | .nz => !fl.z
  | .z  => fl.z
  | .nc => !fl.c
  | .c  => fl.c

/-! ### 8-bit arithmetic and logic -/

/-- `add8` (R500). -/
def add8 (a b : Byte) (cin : Bool) : Byte × Flags :=
  let t := a.toNat + b.toNat + cin.toNat
  let r := BitVec.ofNat 8 t
  (r, { z := r == 0, n := false, h := decide (a.toNat % 16 + b.toNat % 16 + cin.toNat > 0xF), c := decide (t > 0xFF) })

/-- `sub8` (R501). -/
def sub8 (a b : Byte) (cin : Bool) : Byte × Flags :=
  let t : Int := a.toNat - b.toNat - cin.toNat
  let r := BitVec.ofInt 8 t
  (r, { z := r == 0, n := true, h := decide (a.toNat % 16 < b.toNat % 16 + cin.toNat), c := decide (a.toNat < b.toNat + cin.toNat) })

/-- `AND` (R502). -/
def and8 (a b : Byte) : Byte × Flags :=
  let r := a &&& b
  (r, { z := r == 0, n := false, h := true, c := false })

/-- `XOR` (R502). -/
def xor8 (a b : Byte) : Byte × Flags :=
  let r := a ^^^ b
  (r, { z := r == 0, n := false, h := false, c := false })

/-- `OR` (R502). -/
def or8 (a b : Byte) : Byte × Flags :=
  let r := a ||| b
  (r, { z := r == 0, n := false, h := false, c := false })

/-- The operation on A that R307 names, from A, the operand and the carry before the instruction: what A becomes and the
flags. CP leaves A as it was (R531). -/
def alu8 (op : AluOp) (a b : Byte) (cin : Bool) : Byte × Flags :=
  match op with
  | .add => add8 a b false
  | .adc => add8 a b cin
  | .sub => sub8 a b false
  | .sbc => sub8 a b cin
  | .and => and8 a b
  | .xor => xor8 a b
  | .or  => or8 a b
  | .cp  => (a, (sub8 a b false).2)

/-- INC of a byte; C is kept (R540). -/
def inc8 (v : Byte) (fl : Flags) : Byte × Flags :=
  let r := v + 1
  (r, { z := r == 0, n := false, h := v.toNat % 16 == 0xF, c := fl.c })

/-- DEC of a byte; C is kept (R542). -/
def dec8 (v : Byte) (fl : Flags) : Byte × Flags :=
  let r := v - 1
  (r, { z := r == 0, n := true, h := v.toNat % 16 == 0, c := fl.c })

/-- DAA (R550): after an addition the value tests apply, after a subtraction only H and C select the corrections (C4). -/
def daa8 (a : Byte) (fl : Flags) : Byte × Flags :=
  let high := fl.c || (!fl.n && decide (a.toNat > 0x99))
  let low := fl.h || (!fl.n && decide (a.toNat % 16 > 0x9))
  let corr : Byte := (if high then 0x60 else 0) ||| (if low then 0x06 else 0)
  let r := if fl.n then a - corr else a + corr
  (r, { z := r == 0, n := fl.n, h := false, c := high })

/-! ### 16-bit arithmetic -/

/-- ADD HL,dd: Z is kept (R602). -/
def add16 (a b : Word) (fl : Flags) : Word × Flags :=
  let t := a.toNat + b.toNat
  (BitVec.ofNat 16 t,
   { z := fl.z, n := false, h := decide (a.toNat % 4096 + b.toNat % 4096 > 0xFFF), c := decide (t > 0xFFFF) })

/-- `spe8`: the flags come from the unsigned sum of the low bytes, whatever the sign of `e` (R603, C5). -/
def spe8 (sp : Word) (e : Byte) : Word × Flags :=
  (sp + signExtend16 e,
   { z := false, n := false
     h := decide (sp.toNat % 16 + e.toNat % 16 > 0xF)
     c := decide (sp.toNat % 256 + e.toNat > 0xFF) })

/-! ### Rotates, shifts, bits -/

/-- The carry as a byte, 0 or 1. -/
def carryBit (c : Bool) : Byte := if c then 1 else 0

/-- `rot(k, v)` with the carry from before the instruction: the result and the bit shifted out (R660). -/
def rot8 (op : RotOp) (v : Byte) (c : Bool) : Byte × Bool :=
  match op with
  | .rlc  => ((v <<< 1) ||| carryBit (v.getLsbD 7), v.getLsbD 7)
  | .rrc  => ((v >>> 1) ||| (carryBit (v.getLsbD 0) <<< 7), v.getLsbD 0)
  | .rl   => ((v <<< 1) ||| carryBit c, v.getLsbD 7)
  | .rr   => ((v >>> 1) ||| (carryBit c <<< 7), v.getLsbD 0)
  | .sla  => (v <<< 1, v.getLsbD 7)
  | .sra  => ((v >>> 1) ||| (v &&& 0x80), v.getLsbD 0)
  | .swap => (v.extractLsb' 0 4 ++ v.extractLsb' 4 4, false)
  | .srl  => (v >>> 1, v.getLsbD 0)

/-- The flags of a 0xCB rotate or shift (R660). -/
def rotFlags (r : Byte × Bool) : Flags := { z := r.1 == 0, n := false, h := false, c := r.2 }

/-- The flags of RLCA, RRCA, RLA, RRA: Z is always cleared (R650 to R653). -/
def rotAFlags (r : Byte × Bool) : Flags := { z := false, n := false, h := false, c := r.2 }

/-- The flags of BIT: C is kept (R680). -/
def bitFlags (b : Fin 8) (v : Byte) (fl : Flags) : Flags := { z := !v.getLsbD b.val, n := false, h := true, c := fl.c }

/-- `v & ~(1 << b)` (R682). -/
def clearBit (b : Fin 8) (v : Byte) : Byte := v &&& ~~~((1 : Byte) <<< b.val)

/-- `v | (1 << b)` (R684). -/
def raiseBit (b : Fin 8) (v : Byte) : Byte := v ||| ((1 : Byte) <<< b.val)

end Sys2Proof.Machine
end

