-- ==== Sys2Proof/Machine/Ops.lean ====
section
/-! DEFINITION. The named operations every meaning is written over: the stack (spec/20_memory.md R210, R211), the cost, taking an
interrupt and the return from one, raising a fault, the steps that run no instruction, the bookkeeping after one
(spec/60_exceptions.md), and fetching (spec/30_encoding.md R308). -/

namespace Sys2Proof.Machine

/-- What a meaning answers. -/
abbrev Result := Host.Outcome State Fault Refusal

/-- `cost <- n` (R124). -/
def State.charge (s : State) (n : Nat) : State := { s with cost := some n }

/-- `PC <- a`. -/
def State.setPc (s : State) (a : Word) : State := { s with pc := a }

/-- `SP <- a`. -/
def State.setSp (s : State) (a : Word) : State := { s with sp := a }

/-- Write A and the flags together, as the 8-bit operations do. -/
def State.setAFlags (s : State) (r : Byte × Flags) : State := { s.setFlags r.2 with a := r.1 }

/-! ### Two-byte accesses: low byte first, the address wraps (R203) -/

/-- The value `MemRead(addr, 2)` returns: the second byte is read after the first read has had its effect (R206). -/
def State.read16 (s : State) (a : Word) : Word := Word.ofBytes ((s.afterRead a).read (a + 1)) (s.read a)

/-- The state `MemRead(addr, 2)` leaves. -/
def State.afterRead16 (s : State) (a : Word) : State := (s.afterRead a).afterRead (a + 1)

/-- `MemWrite(addr, 2, v)`. -/
def State.write16 (s : State) (a : Word) (v : Word) : State := (s.write a v.lo).write (a + 1) v.hi

/-! ### The stack -/

/-- `push16(v)`: the high byte first, at the higher address (R210). The order shows only through side effects (log 19). -/
def State.push16 (s : State) (v : Word) : State :=
  let s1 := (s.setSp (s.sp - 1)).write (s.sp - 1) v.hi
  (s1.setSp (s.sp - 2)).write (s.sp - 2) v.lo

/-- The value `pop16()` returns (R211). -/
def State.popValue (s : State) : Word := s.read16 s.sp

/-- The state after `pop16()`: the two bytes have been read and SP has moved past them (R211). -/
def State.popped (s : State) : State := (s.afterRead16 s.sp).setSp (s.sp + 2)

/-! ### Interrupts -/

/-- `pending = IE & IF & 0x1F` (R122). -/
def State.pending (s : State) : Byte := s.ie &&& s.iflag &&& 0x1F

/-- The lowest set bit of a set of pending interrupts, which has the highest priority (R911). -/
def lowestSource (p : Byte) : Nat :=
  if p.getLsbD 0 then 0 else if p.getLsbD 1 then 1 else if p.getLsbD 2 then 2 else if p.getLsbD 3 then 3 else 4

/-- `vector(k) = 0x0040 + 8k` (R913). -/
def vector (k : Nat) : Word := 0x0040 + 8 * BitVec.ofNat 16 k

/-- Taking an interrupt (R912): the serviced IF bit, IME, the pending enable and the halted state are cleared, PC is pushed
and goes to the source's vector, which was chosen before the pushes (D13). Cost 20 (R914). -/
def State.dispatch (s : State) : State :=
  let k := lowestSource s.pending
  let s1 := { s with iflag := s.iflag &&& ~~~((1 : Byte) <<< k), ime := false, eiDelay := 0, halted := false }
  ((s1.push16 s.pc).setPc (vector k)).charge 20

/-- The return from an interrupt: PC is popped and IME is set at once (R760, D8). -/
def State.returnFromInterrupt (s : State) : State :=
  { s.popped.setPc s.popValue with ime := true, eiDelay := 0 }

/-- Wake without dispatch, at no cost (R903). -/
def State.wake (s : State) : State := { s with halted := false }.charge 0

/-- Halted idle: nothing changes, cost 4 (R902). -/
def State.idle (s : State) : State := s.charge 4

/-- The end-of-instruction bookkeeping (R905). -/
def State.bookkeeping (s : State) : State :=
  match s.eiDelay with
  | 0 => s
  | 1 => { s with eiDelay := 0, ime := true }
  | 2 => { s with eiDelay := 1 }

/-! ### Faults -/

/-- Raise a fault from an instruction of `len` bytes, all fetched: `fault` is written, PC goes back to the opcode, and
nothing else of the machine changes; no step completes, so none returns a cost (R940, R806). Log 12; that all are fetched, log 23. -/
def State.raiseFault (s : State) (r : FaultReason) (len : Nat) : State :=
  { s with fault := some r, pc := s.pc - BitVec.ofNat 16 len, cost := none }

/-! ### Fetching -/

/-- `fetch8()` `n` times: the bytes, and the state with PC past them (R308). -/
def State.fetchBytes : Nat → State → List Byte × State
  | 0, s => ([], s)
  | n + 1, s =>
    let r := State.fetchBytes n ((s.afterRead s.pc).setPc (s.pc + 1))
    (s.read s.pc :: r.1, r.2)

/-- The bytes of the instruction at PC, as many as its first byte says (R300), and the state with PC past them, as the meanings find
it. DESIGN CHOICE (log 23): so STOP's second byte is read, which R308 says of every instruction, under `STOP_MODE = fault` too, where
R803 lists no fetch and R922 raises the fault at decode. -/
def State.fetch (s : State) : List Byte × State := State.fetchBytes (instrLength (s.read s.pc)) s

/-- The instruction at PC (R308, R309). -/
def State.fetched (s : State) : Instr := decodeBytes (s.fetch.1.getD 0 0) (s.fetch.1.getD 1 0) (s.fetch.1.getD 2 0)

/-- PC past all bytes of the instruction at it, each of them read (R308). -/
def State.pastFetch (s : State) : State := s.fetch.2

/-! ### The step's ways to go on -/

/-- The end of a step that returned its cost: the façade feeds the cost to the devices (R907). -/
def State.completed (s : State) : Result := .next s.elapse

/-- After the instruction's own effect: nothing more if it raised a fault (no step completes, R806), else the bookkeeping of
R905 and the devices. -/
def afterExec : Result → Result
  | .next t => if t.fault.isSome then .next t else t.bookkeeping.completed
  | .fault r => .fault r
  | .refused r => .refused r

/-! ### Placing an instruction where the machine fetches -/

/-- Put one byte where a read of address `a` finds it, without the side effects of a store: a program is loaded, not written
by the CPU (log 16). An address that shows no memory (open bus, a scripted address) is given the test `BUS`. -/
def State.place (s : State) (a : Word) (v : Byte) : State :=
  let b := resolve s.params a
  match ownerAt s.params b with
  | .rom => if s.overlay && decide (b < 0x0100) then { s with bootRom := s.bootRom.write b.toNat v } else s.poke b v
  | .vram | .extRam | .workRam | .oam | .device | .highRam | .dmaTrigger | .bootDisable => s.poke b v
  | .openBus | .scripted => { s with params := { s.params with bus := .flat } }.poke a v
  | .interruptEnable => { s with ie := v }
  | .interruptFlag => { s with iflag := v }
  | .div => { s with timer := { s.timer with div := v } }
  | .tima => { s with timer := { s.timer with tima := v } }
  | .tma => { s with timer := { s.timer with tma := v } }
  | .tac => { s with timer := { s.timer with tac := v } }

/-- Place bytes from address `a` on. -/
def State.placeAll (s : State) : Word → List Byte → State
  | _, [] => s
  | a, v :: rest => State.placeAll (s.place a v) (a + 1) rest

/-- Whether the bytes from address `a` on read as given. -/
def State.shows (s : State) : Word → List Byte → Bool
  | _, [] => true
  | a, v :: rest => (s.read a == v) && State.shows s (a + 1) rest

/-- The state whose next step fetches and runs the instruction of these bytes: they are placed at PC; a stopped, halted or
interrupted machine would run something else, so those conditions are cleared where they stand. If giving a later byte its
place has hidden an earlier one (PC near an open-bus boundary), the bytes are placed again. -/
def State.withProgram (s : State) (bytes : List Byte) : State :=
  let s1 := s.placeAll s.pc bytes
  let s2 := if s1.shows s.pc bytes then s1 else s1.placeAll s.pc bytes
  { s2 with fault := none, halted := false, ime := s2.ime && decide (s2.pending = 0) }

end Sys2Proof.Machine
end

