-- ==== Sys2Proof/Machine/Alu16.lean ====
section
/-! DEFINITION. 16-bit arithmetic (spec/43_alu16.md). -/

namespace Sys2Proof.Machine

/-- INC dd: no flag changes (R600). -/
def incPair (p : PairSp) (s : State) : Result := .next ((s.setPairSp p (s.pairSp p + 1)).charge 8)

/-- DEC dd: no flag changes (R601). -/
def decPair (p : PairSp) (s : State) : Result := .next ((s.setPairSp p (s.pairSp p - 1)).charge 8)

/-- ADD HL,dd (R602). -/
def addHlPair (p : PairSp) (s : State) : Result :=
  let r := add16 s.hl (s.pairSp p) s.flags
  .next (((s.setHl r.1).setFlags r.2).charge 8)

/-! ### One meaning a row -/

/-- INC BC, 0x03 (R600). -/
def execIncBc (s : State) : Result := incPair .bc s

/-- ADD HL,BC, 0x09 (R602). -/
def execAddHlBc (s : State) : Result := addHlPair .bc s

/-- DEC BC, 0x0B (R601). -/
def execDecBc (s : State) : Result := decPair .bc s

/-- INC DE, 0x13 (R600). -/
def execIncDe (s : State) : Result := incPair .de s

/-- ADD HL,DE, 0x19 (R602). -/
def execAddHlDe (s : State) : Result := addHlPair .de s

/-- DEC DE, 0x1B (R601). -/
def execDecDe (s : State) : Result := decPair .de s

/-- INC HL, 0x23 (R600). -/
def execIncHl (s : State) : Result := incPair .hl s

/-- ADD HL,HL, 0x29 (R602). -/
def execAddHlHl (s : State) : Result := addHlPair .hl s

/-- DEC HL, 0x2B (R601). -/
def execDecHl (s : State) : Result := decPair .hl s

/-- INC SP, 0x33 (R600). -/
def execIncSp (s : State) : Result := incPair .sp s

/-- ADD HL,SP, 0x39 (R602). -/
def execAddHlSp (s : State) : Result := addHlPair .sp s

/-- DEC SP, 0x3B (R601). -/
def execDecSp (s : State) : Result := decPair .sp s

/-- ADD SP,e8, 0xE8 (R604). -/
def execAddSpE8 (e : Byte) (s : State) : Result :=
  let r := spe8 s.sp e
  .next (((s.setSp r.1).setFlags r.2).charge 16)

end Sys2Proof.Machine
end

