-- ==== Sys2Proof/Machine/Alu8.lean ====
section
/-! DEFINITION. 8-bit arithmetic and logic (spec/42_alu8.md). Every flag comes from operands read before anything is written. -/

namespace Sys2Proof.Machine

/-- An operation on A with a register. -/
def aluReg (op : AluOp) (r : Reg8) (s : State) : Result := .next ((s.setAFlags (alu8 op s.a (s.reg r) s.flags.c)).charge 4)

/-- An operation on A with the byte at HL. -/
def aluMemHl (op : AluOp) (s : State) : Result := .next (((s.afterRead s.hl).setAFlags (alu8 op s.a (s.read s.hl) s.flags.c)).charge 8)

/-- An operation on A with an immediate. -/
def aluImm (op : AluOp) (n : Byte) (s : State) : Result := .next ((s.setAFlags (alu8 op s.a n s.flags.c)).charge 8)

/-- INC r (R540). -/
def incReg (r : Reg8) (s : State) : Result :=
  let v := inc8 (s.reg r) s.flags
  .next (((s.setReg r v.1).setFlags v.2).charge 4)

/-- DEC r (R542). -/
def decReg (r : Reg8) (s : State) : Result :=
  let v := dec8 (s.reg r) s.flags
  .next (((s.setReg r v.1).setFlags v.2).charge 4)

/-! ### One meaning a row -/

/-- INC B, 0x04 (R540). -/
def execIncB (s : State) : Result := incReg .b s

/-- DEC B, 0x05 (R542). -/
def execDecB (s : State) : Result := decReg .b s

/-- INC C, 0x0C (R540). -/
def execIncC (s : State) : Result := incReg .c s

/-- DEC C, 0x0D (R542). -/
def execDecC (s : State) : Result := decReg .c s

/-- INC D, 0x14 (R540). -/
def execIncD (s : State) : Result := incReg .d s

/-- DEC D, 0x15 (R542). -/
def execDecD (s : State) : Result := decReg .d s

/-- INC E, 0x1C (R540). -/
def execIncE (s : State) : Result := incReg .e s

/-- DEC E, 0x1D (R542). -/
def execDecE (s : State) : Result := decReg .e s

/-- INC H, 0x24 (R540). -/
def execIncH (s : State) : Result := incReg .h s

/-- DEC H, 0x25 (R542). -/
def execDecH (s : State) : Result := decReg .h s

/-- DAA, 0x27 (R550). -/
def execDaa (s : State) : Result := .next ((s.setAFlags (daa8 s.a s.flags)).charge 4)

/-- INC L, 0x2C (R540). -/
def execIncL (s : State) : Result := incReg .l s

/-- DEC L, 0x2D (R542). -/
def execDecL (s : State) : Result := decReg .l s

/-- CPL, 0x2F (R551). -/
def execCpl (s : State) : Result := .next ((s.setAFlags (~~~s.a, { s.flags with n := true, h := true })).charge 4)

/-- INC (HL), 0x34 (R541). -/
def execIncMemHl (s : State) : Result :=
  let r := inc8 (s.read s.hl) s.flags
  .next ((((s.afterRead s.hl).write s.hl r.1).setFlags r.2).charge 12)

/-- DEC (HL), 0x35 (R543). -/
def execDecMemHl (s : State) : Result :=
  let r := dec8 (s.read s.hl) s.flags
  .next ((((s.afterRead s.hl).write s.hl r.1).setFlags r.2).charge 12)

/-- SCF, 0x37 (R552). -/
def execScf (s : State) : Result := .next ((s.setFlags { s.flags with n := false, h := false, c := true }).charge 4)

/-- INC A, 0x3C (R540). -/
def execIncA (s : State) : Result := incReg .a s

/-- DEC A, 0x3D (R542). -/
def execDecA (s : State) : Result := decReg .a s

/-- CCF, 0x3F (R553). -/
def execCcf (s : State) : Result := .next ((s.setFlags { s.flags with n := false, h := false, c := !s.flags.c }).charge 4)

/-- ADD A,B, 0x80 (R510). -/
def execAddAB (s : State) : Result := aluReg .add .b s

/-- ADD A,C, 0x81 (R510). -/
def execAddAC (s : State) : Result := aluReg .add .c s

/-- ADD A,D, 0x82 (R510). -/
def execAddAD (s : State) : Result := aluReg .add .d s

/-- ADD A,E, 0x83 (R510). -/
def execAddAE (s : State) : Result := aluReg .add .e s

/-- ADD A,H, 0x84 (R510). -/
def execAddAH (s : State) : Result := aluReg .add .h s

/-- ADD A,L, 0x85 (R510). -/
def execAddAL (s : State) : Result := aluReg .add .l s

/-- ADD A,(HL), 0x86 (R511). -/
def execAddAMemHl (s : State) : Result := aluMemHl .add s

/-- ADD A,A, 0x87 (R510). -/
def execAddAA (s : State) : Result := aluReg .add .a s

/-- ADC A,B, 0x88 (R513). -/
def execAdcAB (s : State) : Result := aluReg .adc .b s

/-- ADC A,C, 0x89 (R513). -/
def execAdcAC (s : State) : Result := aluReg .adc .c s

/-- ADC A,D, 0x8A (R513). -/
def execAdcAD (s : State) : Result := aluReg .adc .d s

/-- ADC A,E, 0x8B (R513). -/
def execAdcAE (s : State) : Result := aluReg .adc .e s

/-- ADC A,H, 0x8C (R513). -/
def execAdcAH (s : State) : Result := aluReg .adc .h s

/-- ADC A,L, 0x8D (R513). -/
def execAdcAL (s : State) : Result := aluReg .adc .l s

/-- ADC A,(HL), 0x8E (R514). -/
def execAdcAMemHl (s : State) : Result := aluMemHl .adc s

/-- ADC A,A, 0x8F (R513). -/
def execAdcAA (s : State) : Result := aluReg .adc .a s

/-- SUB B, 0x90 (R516). -/
def execSubB (s : State) : Result := aluReg .sub .b s

/-- SUB C, 0x91 (R516). -/
def execSubC (s : State) : Result := aluReg .sub .c s

/-- SUB D, 0x92 (R516). -/
def execSubD (s : State) : Result := aluReg .sub .d s

/-- SUB E, 0x93 (R516). -/
def execSubE (s : State) : Result := aluReg .sub .e s

/-- SUB H, 0x94 (R516). -/
def execSubH (s : State) : Result := aluReg .sub .h s

/-- SUB L, 0x95 (R516). -/
def execSubL (s : State) : Result := aluReg .sub .l s

/-- SUB (HL), 0x96 (R517). -/
def execSubMemHl (s : State) : Result := aluMemHl .sub s

/-- SUB A, 0x97 (R516). -/
def execSubA (s : State) : Result := aluReg .sub .a s

/-- SBC A,B, 0x98 (R519). -/
def execSbcAB (s : State) : Result := aluReg .sbc .b s

/-- SBC A,C, 0x99 (R519). -/
def execSbcAC (s : State) : Result := aluReg .sbc .c s

/-- SBC A,D, 0x9A (R519). -/
def execSbcAD (s : State) : Result := aluReg .sbc .d s

/-- SBC A,E, 0x9B (R519). -/
def execSbcAE (s : State) : Result := aluReg .sbc .e s

/-- SBC A,H, 0x9C (R519). -/
def execSbcAH (s : State) : Result := aluReg .sbc .h s

/-- SBC A,L, 0x9D (R519). -/
def execSbcAL (s : State) : Result := aluReg .sbc .l s

/-- SBC A,(HL), 0x9E (R520). -/
def execSbcAMemHl (s : State) : Result := aluMemHl .sbc s

/-- SBC A,A, 0x9F (R519). -/
def execSbcAA (s : State) : Result := aluReg .sbc .a s

/-- AND B, 0xA0 (R522). -/
def execAndB (s : State) : Result := aluReg .and .b s

/-- AND C, 0xA1 (R522). -/
def execAndC (s : State) : Result := aluReg .and .c s

/-- AND D, 0xA2 (R522). -/
def execAndD (s : State) : Result := aluReg .and .d s

/-- AND E, 0xA3 (R522). -/
def execAndE (s : State) : Result := aluReg .and .e s

/-- AND H, 0xA4 (R522). -/
def execAndH (s : State) : Result := aluReg .and .h s

/-- AND L, 0xA5 (R522). -/
def execAndL (s : State) : Result := aluReg .and .l s

/-- AND (HL), 0xA6 (R523). -/
def execAndMemHl (s : State) : Result := aluMemHl .and s

/-- AND A, 0xA7 (R522). -/
def execAndA (s : State) : Result := aluReg .and .a s

/-- XOR B, 0xA8 (R525). -/
def execXorB (s : State) : Result := aluReg .xor .b s

/-- XOR C, 0xA9 (R525). -/
def execXorC (s : State) : Result := aluReg .xor .c s

/-- XOR D, 0xAA (R525). -/
def execXorD (s : State) : Result := aluReg .xor .d s

/-- XOR E, 0xAB (R525). -/
def execXorE (s : State) : Result := aluReg .xor .e s

/-- XOR H, 0xAC (R525). -/
def execXorH (s : State) : Result := aluReg .xor .h s

/-- XOR L, 0xAD (R525). -/
def execXorL (s : State) : Result := aluReg .xor .l s

/-- XOR (HL), 0xAE (R526). -/
def execXorMemHl (s : State) : Result := aluMemHl .xor s

/-- XOR A, 0xAF (R525). -/
def execXorA (s : State) : Result := aluReg .xor .a s

/-- OR B, 0xB0 (R528). -/
def execOrB (s : State) : Result := aluReg .or .b s

/-- OR C, 0xB1 (R528). -/
def execOrC (s : State) : Result := aluReg .or .c s

/-- OR D, 0xB2 (R528). -/
def execOrD (s : State) : Result := aluReg .or .d s

/-- OR E, 0xB3 (R528). -/
def execOrE (s : State) : Result := aluReg .or .e s

/-- OR H, 0xB4 (R528). -/
def execOrH (s : State) : Result := aluReg .or .h s

/-- OR L, 0xB5 (R528). -/
def execOrL (s : State) : Result := aluReg .or .l s

/-- OR (HL), 0xB6 (R529). -/
def execOrMemHl (s : State) : Result := aluMemHl .or s

/-- OR A, 0xB7 (R528). -/
def execOrA (s : State) : Result := aluReg .or .a s

/-- CP B, 0xB8 (R531). -/
def execCpB (s : State) : Result := aluReg .cp .b s

/-- CP C, 0xB9 (R531). -/
def execCpC (s : State) : Result := aluReg .cp .c s

/-- CP D, 0xBA (R531). -/
def execCpD (s : State) : Result := aluReg .cp .d s

/-- CP E, 0xBB (R531). -/
def execCpE (s : State) : Result := aluReg .cp .e s

/-- CP H, 0xBC (R531). -/
def execCpH (s : State) : Result := aluReg .cp .h s

/-- CP L, 0xBD (R531). -/
def execCpL (s : State) : Result := aluReg .cp .l s

/-- CP (HL), 0xBE (R532). -/
def execCpMemHl (s : State) : Result := aluMemHl .cp s

/-- CP A, 0xBF (R531). -/
def execCpA (s : State) : Result := aluReg .cp .a s

/-- ADD A,n8, 0xC6 (R512). -/
def execAddAN8 (n : Byte) (s : State) : Result := aluImm .add n s

/-- ADC A,n8, 0xCE (R515). -/
def execAdcAN8 (n : Byte) (s : State) : Result := aluImm .adc n s

/-- SUB n8, 0xD6 (R518). -/
def execSubN8 (n : Byte) (s : State) : Result := aluImm .sub n s

/-- SBC A,n8, 0xDE (R521). -/
def execSbcAN8 (n : Byte) (s : State) : Result := aluImm .sbc n s

/-- AND n8, 0xE6 (R524). -/
def execAndN8 (n : Byte) (s : State) : Result := aluImm .and n s

/-- XOR n8, 0xEE (R527). -/
def execXorN8 (n : Byte) (s : State) : Result := aluImm .xor n s

/-- OR n8, 0xF6 (R530). -/
def execOrN8 (n : Byte) (s : State) : Result := aluImm .or n s

/-- CP n8, 0xFE (R533). -/
def execCpN8 (n : Byte) (s : State) : Result := aluImm .cp n s

end Sys2Proof.Machine
end

