-- ==== Sys2Proof/Machine/Bit.lean ====
section
/-! DEFINITION. BIT, RES and SET (spec/44_rotate_shift_bit.md §3). -/

namespace Sys2Proof.Machine

/-- BIT b,r (R680). -/
def testReg (b : Fin 8) (r : Reg8) (s : State) : Result := .next ((s.setFlags (bitFlags b (s.reg r) s.flags)).charge 8)

/-- BIT b,(HL): one read, no write (R681). -/
def testMemHl (b : Fin 8) (s : State) : Result := .next (((s.afterRead s.hl).setFlags (bitFlags b (s.read s.hl) s.flags)).charge 12)

/-- RES b,r (R682). -/
def resetReg (b : Fin 8) (r : Reg8) (s : State) : Result := .next ((s.setReg r (clearBit b (s.reg r))).charge 8)

/-- RES b,(HL) (R683). -/
def resetMemHl (b : Fin 8) (s : State) : Result := .next (((s.afterRead s.hl).write s.hl (clearBit b (s.read s.hl))).charge 16)

/-- SET b,r (R684). -/
def raiseReg (b : Fin 8) (r : Reg8) (s : State) : Result := .next ((s.setReg r (raiseBit b (s.reg r))).charge 8)

/-- SET b,(HL) (R685). -/
def raiseMemHl (b : Fin 8) (s : State) : Result := .next (((s.afterRead s.hl).write s.hl (raiseBit b (s.read s.hl))).charge 16)

/-! ### One meaning a row -/

/-- BIT 0,B, 0xCB 0x40 (R680). -/
def execBit0B (s : State) : Result := testReg 0 .b s

/-- BIT 0,C, 0xCB 0x41 (R680). -/
def execBit0C (s : State) : Result := testReg 0 .c s

/-- BIT 0,D, 0xCB 0x42 (R680). -/
def execBit0D (s : State) : Result := testReg 0 .d s

/-- BIT 0,E, 0xCB 0x43 (R680). -/
def execBit0E (s : State) : Result := testReg 0 .e s

/-- BIT 0,H, 0xCB 0x44 (R680). -/
def execBit0H (s : State) : Result := testReg 0 .h s

/-- BIT 0,L, 0xCB 0x45 (R680). -/
def execBit0L (s : State) : Result := testReg 0 .l s

/-- BIT 0,(HL), 0xCB 0x46 (R681). -/
def execBit0MemHl (s : State) : Result := testMemHl 0 s

/-- BIT 0,A, 0xCB 0x47 (R680). -/
def execBit0A (s : State) : Result := testReg 0 .a s

/-- BIT 1,B, 0xCB 0x48 (R680). -/
def execBit1B (s : State) : Result := testReg 1 .b s

/-- BIT 1,C, 0xCB 0x49 (R680). -/
def execBit1C (s : State) : Result := testReg 1 .c s

/-- BIT 1,D, 0xCB 0x4A (R680). -/
def execBit1D (s : State) : Result := testReg 1 .d s

/-- BIT 1,E, 0xCB 0x4B (R680). -/
def execBit1E (s : State) : Result := testReg 1 .e s

/-- BIT 1,H, 0xCB 0x4C (R680). -/
def execBit1H (s : State) : Result := testReg 1 .h s

/-- BIT 1,L, 0xCB 0x4D (R680). -/
def execBit1L (s : State) : Result := testReg 1 .l s

/-- BIT 1,(HL), 0xCB 0x4E (R681). -/
def execBit1MemHl (s : State) : Result := testMemHl 1 s

/-- BIT 1,A, 0xCB 0x4F (R680). -/
def execBit1A (s : State) : Result := testReg 1 .a s

/-- BIT 2,B, 0xCB 0x50 (R680). -/
def execBit2B (s : State) : Result := testReg 2 .b s

/-- BIT 2,C, 0xCB 0x51 (R680). -/
def execBit2C (s : State) : Result := testReg 2 .c s

/-- BIT 2,D, 0xCB 0x52 (R680). -/
def execBit2D (s : State) : Result := testReg 2 .d s

/-- BIT 2,E, 0xCB 0x53 (R680). -/
def execBit2E (s : State) : Result := testReg 2 .e s

/-- BIT 2,H, 0xCB 0x54 (R680). -/
def execBit2H (s : State) : Result := testReg 2 .h s

/-- BIT 2,L, 0xCB 0x55 (R680). -/
def execBit2L (s : State) : Result := testReg 2 .l s

/-- BIT 2,(HL), 0xCB 0x56 (R681). -/
def execBit2MemHl (s : State) : Result := testMemHl 2 s

/-- BIT 2,A, 0xCB 0x57 (R680). -/
def execBit2A (s : State) : Result := testReg 2 .a s

/-- BIT 3,B, 0xCB 0x58 (R680). -/
def execBit3B (s : State) : Result := testReg 3 .b s

/-- BIT 3,C, 0xCB 0x59 (R680). -/
def execBit3C (s : State) : Result := testReg 3 .c s

/-- BIT 3,D, 0xCB 0x5A (R680). -/
def execBit3D (s : State) : Result := testReg 3 .d s

/-- BIT 3,E, 0xCB 0x5B (R680). -/
def execBit3E (s : State) : Result := testReg 3 .e s

/-- BIT 3,H, 0xCB 0x5C (R680). -/
def execBit3H (s : State) : Result := testReg 3 .h s

/-- BIT 3,L, 0xCB 0x5D (R680). -/
def execBit3L (s : State) : Result := testReg 3 .l s

/-- BIT 3,(HL), 0xCB 0x5E (R681). -/
def execBit3MemHl (s : State) : Result := testMemHl 3 s

/-- BIT 3,A, 0xCB 0x5F (R680). -/
def execBit3A (s : State) : Result := testReg 3 .a s

/-- BIT 4,B, 0xCB 0x60 (R680). -/
def execBit4B (s : State) : Result := testReg 4 .b s

/-- BIT 4,C, 0xCB 0x61 (R680). -/
def execBit4C (s : State) : Result := testReg 4 .c s

/-- BIT 4,D, 0xCB 0x62 (R680). -/
def execBit4D (s : State) : Result := testReg 4 .d s

/-- BIT 4,E, 0xCB 0x63 (R680). -/
def execBit4E (s : State) : Result := testReg 4 .e s

/-- BIT 4,H, 0xCB 0x64 (R680). -/
def execBit4H (s : State) : Result := testReg 4 .h s

/-- BIT 4,L, 0xCB 0x65 (R680). -/
def execBit4L (s : State) : Result := testReg 4 .l s

/-- BIT 4,(HL), 0xCB 0x66 (R681). -/
def execBit4MemHl (s : State) : Result := testMemHl 4 s

/-- BIT 4,A, 0xCB 0x67 (R680). -/
def execBit4A (s : State) : Result := testReg 4 .a s

/-- BIT 5,B, 0xCB 0x68 (R680). -/
def execBit5B (s : State) : Result := testReg 5 .b s

/-- BIT 5,C, 0xCB 0x69 (R680). -/
def execBit5C (s : State) : Result := testReg 5 .c s

/-- BIT 5,D, 0xCB 0x6A (R680). -/
def execBit5D (s : State) : Result := testReg 5 .d s

/-- BIT 5,E, 0xCB 0x6B (R680). -/
def execBit5E (s : State) : Result := testReg 5 .e s

/-- BIT 5,H, 0xCB 0x6C (R680). -/
def execBit5H (s : State) : Result := testReg 5 .h s

/-- BIT 5,L, 0xCB 0x6D (R680). -/
def execBit5L (s : State) : Result := testReg 5 .l s

/-- BIT 5,(HL), 0xCB 0x6E (R681). -/
def execBit5MemHl (s : State) : Result := testMemHl 5 s

/-- BIT 5,A, 0xCB 0x6F (R680). -/
def execBit5A (s : State) : Result := testReg 5 .a s

/-- BIT 6,B, 0xCB 0x70 (R680). -/
def execBit6B (s : State) : Result := testReg 6 .b s

/-- BIT 6,C, 0xCB 0x71 (R680). -/
def execBit6C (s : State) : Result := testReg 6 .c s

/-- BIT 6,D, 0xCB 0x72 (R680). -/
def execBit6D (s : State) : Result := testReg 6 .d s

/-- BIT 6,E, 0xCB 0x73 (R680). -/
def execBit6E (s : State) : Result := testReg 6 .e s

/-- BIT 6,H, 0xCB 0x74 (R680). -/
def execBit6H (s : State) : Result := testReg 6 .h s

/-- BIT 6,L, 0xCB 0x75 (R680). -/
def execBit6L (s : State) : Result := testReg 6 .l s

/-- BIT 6,(HL), 0xCB 0x76 (R681). -/
def execBit6MemHl (s : State) : Result := testMemHl 6 s

/-- BIT 6,A, 0xCB 0x77 (R680). -/
def execBit6A (s : State) : Result := testReg 6 .a s

/-- BIT 7,B, 0xCB 0x78 (R680). -/
def execBit7B (s : State) : Result := testReg 7 .b s

/-- BIT 7,C, 0xCB 0x79 (R680). -/
def execBit7C (s : State) : Result := testReg 7 .c s

/-- BIT 7,D, 0xCB 0x7A (R680). -/
def execBit7D (s : State) : Result := testReg 7 .d s

/-- BIT 7,E, 0xCB 0x7B (R680). -/
def execBit7E (s : State) : Result := testReg 7 .e s

/-- BIT 7,H, 0xCB 0x7C (R680). -/
def execBit7H (s : State) : Result := testReg 7 .h s

/-- BIT 7,L, 0xCB 0x7D (R680). -/
def execBit7L (s : State) : Result := testReg 7 .l s

/-- BIT 7,(HL), 0xCB 0x7E (R681). -/
def execBit7MemHl (s : State) : Result := testMemHl 7 s

/-- BIT 7,A, 0xCB 0x7F (R680). -/
def execBit7A (s : State) : Result := testReg 7 .a s

/-- RES 0,B, 0xCB 0x80 (R682). -/
def execRes0B (s : State) : Result := resetReg 0 .b s

/-- RES 0,C, 0xCB 0x81 (R682). -/
def execRes0C (s : State) : Result := resetReg 0 .c s

/-- RES 0,D, 0xCB 0x82 (R682). -/
def execRes0D (s : State) : Result := resetReg 0 .d s

/-- RES 0,E, 0xCB 0x83 (R682). -/
def execRes0E (s : State) : Result := resetReg 0 .e s

/-- RES 0,H, 0xCB 0x84 (R682). -/
def execRes0H (s : State) : Result := resetReg 0 .h s

/-- RES 0,L, 0xCB 0x85 (R682). -/
def execRes0L (s : State) : Result := resetReg 0 .l s

/-- RES 0,(HL), 0xCB 0x86 (R683). -/
def execRes0MemHl (s : State) : Result := resetMemHl 0 s

/-- RES 0,A, 0xCB 0x87 (R682). -/
def execRes0A (s : State) : Result := resetReg 0 .a s

/-- RES 1,B, 0xCB 0x88 (R682). -/
def execRes1B (s : State) : Result := resetReg 1 .b s

/-- RES 1,C, 0xCB 0x89 (R682). -/
def execRes1C (s : State) : Result := resetReg 1 .c s

/-- RES 1,D, 0xCB 0x8A (R682). -/
def execRes1D (s : State) : Result := resetReg 1 .d s

/-- RES 1,E, 0xCB 0x8B (R682). -/
def execRes1E (s : State) : Result := resetReg 1 .e s

/-- RES 1,H, 0xCB 0x8C (R682). -/
def execRes1H (s : State) : Result := resetReg 1 .h s

/-- RES 1,L, 0xCB 0x8D (R682). -/
def execRes1L (s : State) : Result := resetReg 1 .l s

/-- RES 1,(HL), 0xCB 0x8E (R683). -/
def execRes1MemHl (s : State) : Result := resetMemHl 1 s

/-- RES 1,A, 0xCB 0x8F (R682). -/
def execRes1A (s : State) : Result := resetReg 1 .a s

/-- RES 2,B, 0xCB 0x90 (R682). -/
def execRes2B (s : State) : Result := resetReg 2 .b s

/-- RES 2,C, 0xCB 0x91 (R682). -/
def execRes2C (s : State) : Result := resetReg 2 .c s

/-- RES 2,D, 0xCB 0x92 (R682). -/
def execRes2D (s : State) : Result := resetReg 2 .d s

/-- RES 2,E, 0xCB 0x93 (R682). -/
def execRes2E (s : State) : Result := resetReg 2 .e s

/-- RES 2,H, 0xCB 0x94 (R682). -/
def execRes2H (s : State) : Result := resetReg 2 .h s

/-- RES 2,L, 0xCB 0x95 (R682). -/
def execRes2L (s : State) : Result := resetReg 2 .l s

/-- RES 2,(HL), 0xCB 0x96 (R683). -/
def execRes2MemHl (s : State) : Result := resetMemHl 2 s

/-- RES 2,A, 0xCB 0x97 (R682). -/
def execRes2A (s : State) : Result := resetReg 2 .a s

/-- RES 3,B, 0xCB 0x98 (R682). -/
def execRes3B (s : State) : Result := resetReg 3 .b s

/-- RES 3,C, 0xCB 0x99 (R682). -/
def execRes3C (s : State) : Result := resetReg 3 .c s

/-- RES 3,D, 0xCB 0x9A (R682). -/
def execRes3D (s : State) : Result := resetReg 3 .d s

/-- RES 3,E, 0xCB 0x9B (R682). -/
def execRes3E (s : State) : Result := resetReg 3 .e s

/-- RES 3,H, 0xCB 0x9C (R682). -/
def execRes3H (s : State) : Result := resetReg 3 .h s

/-- RES 3,L, 0xCB 0x9D (R682). -/
def execRes3L (s : State) : Result := resetReg 3 .l s

/-- RES 3,(HL), 0xCB 0x9E (R683). -/
def execRes3MemHl (s : State) : Result := resetMemHl 3 s

/-- RES 3,A, 0xCB 0x9F (R682). -/
def execRes3A (s : State) : Result := resetReg 3 .a s

/-- RES 4,B, 0xCB 0xA0 (R682). -/
def execRes4B (s : State) : Result := resetReg 4 .b s

/-- RES 4,C, 0xCB 0xA1 (R682). -/
def execRes4C (s : State) : Result := resetReg 4 .c s

/-- RES 4,D, 0xCB 0xA2 (R682). -/
def execRes4D (s : State) : Result := resetReg 4 .d s

/-- RES 4,E, 0xCB 0xA3 (R682). -/
def execRes4E (s : State) : Result := resetReg 4 .e s

/-- RES 4,H, 0xCB 0xA4 (R682). -/
def execRes4H (s : State) : Result := resetReg 4 .h s

/-- RES 4,L, 0xCB 0xA5 (R682). -/
def execRes4L (s : State) : Result := resetReg 4 .l s

/-- RES 4,(HL), 0xCB 0xA6 (R683). -/
def execRes4MemHl (s : State) : Result := resetMemHl 4 s

/-- RES 4,A, 0xCB 0xA7 (R682). -/
def execRes4A (s : State) : Result := resetReg 4 .a s

/-- RES 5,B, 0xCB 0xA8 (R682). -/
def execRes5B (s : State) : Result := resetReg 5 .b s

/-- RES 5,C, 0xCB 0xA9 (R682). -/
def execRes5C (s : State) : Result := resetReg 5 .c s

/-- RES 5,D, 0xCB 0xAA (R682). -/
def execRes5D (s : State) : Result := resetReg 5 .d s

/-- RES 5,E, 0xCB 0xAB (R682). -/
def execRes5E (s : State) : Result := resetReg 5 .e s

/-- RES 5,H, 0xCB 0xAC (R682). -/
def execRes5H (s : State) : Result := resetReg 5 .h s

/-- RES 5,L, 0xCB 0xAD (R682). -/
def execRes5L (s : State) : Result := resetReg 5 .l s

/-- RES 5,(HL), 0xCB 0xAE (R683). -/
def execRes5MemHl (s : State) : Result := resetMemHl 5 s

/-- RES 5,A, 0xCB 0xAF (R682). -/
def execRes5A (s : State) : Result := resetReg 5 .a s

/-- RES 6,B, 0xCB 0xB0 (R682). -/
def execRes6B (s : State) : Result := resetReg 6 .b s

/-- RES 6,C, 0xCB 0xB1 (R682). -/
def execRes6C (s : State) : Result := resetReg 6 .c s

/-- RES 6,D, 0xCB 0xB2 (R682). -/
def execRes6D (s : State) : Result := resetReg 6 .d s

/-- RES 6,E, 0xCB 0xB3 (R682). -/
def execRes6E (s : State) : Result := resetReg 6 .e s

/-- RES 6,H, 0xCB 0xB4 (R682). -/
def execRes6H (s : State) : Result := resetReg 6 .h s

/-- RES 6,L, 0xCB 0xB5 (R682). -/
def execRes6L (s : State) : Result := resetReg 6 .l s

/-- RES 6,(HL), 0xCB 0xB6 (R683). -/
def execRes6MemHl (s : State) : Result := resetMemHl 6 s

/-- RES 6,A, 0xCB 0xB7 (R682). -/
def execRes6A (s : State) : Result := resetReg 6 .a s

/-- RES 7,B, 0xCB 0xB8 (R682). -/
def execRes7B (s : State) : Result := resetReg 7 .b s

/-- RES 7,C, 0xCB 0xB9 (R682). -/
def execRes7C (s : State) : Result := resetReg 7 .c s

/-- RES 7,D, 0xCB 0xBA (R682). -/
def execRes7D (s : State) : Result := resetReg 7 .d s

/-- RES 7,E, 0xCB 0xBB (R682). -/
def execRes7E (s : State) : Result := resetReg 7 .e s

/-- RES 7,H, 0xCB 0xBC (R682). -/
def execRes7H (s : State) : Result := resetReg 7 .h s

/-- RES 7,L, 0xCB 0xBD (R682). -/
def execRes7L (s : State) : Result := resetReg 7 .l s

/-- RES 7,(HL), 0xCB 0xBE (R683). -/
def execRes7MemHl (s : State) : Result := resetMemHl 7 s

/-- RES 7,A, 0xCB 0xBF (R682). -/
def execRes7A (s : State) : Result := resetReg 7 .a s

/-- SET 0,B, 0xCB 0xC0 (R684). -/
def execSet0B (s : State) : Result := raiseReg 0 .b s

/-- SET 0,C, 0xCB 0xC1 (R684). -/
def execSet0C (s : State) : Result := raiseReg 0 .c s

/-- SET 0,D, 0xCB 0xC2 (R684). -/
def execSet0D (s : State) : Result := raiseReg 0 .d s

/-- SET 0,E, 0xCB 0xC3 (R684). -/
def execSet0E (s : State) : Result := raiseReg 0 .e s

/-- SET 0,H, 0xCB 0xC4 (R684). -/
def execSet0H (s : State) : Result := raiseReg 0 .h s

/-- SET 0,L, 0xCB 0xC5 (R684). -/
def execSet0L (s : State) : Result := raiseReg 0 .l s

/-- SET 0,(HL), 0xCB 0xC6 (R685). -/
def execSet0MemHl (s : State) : Result := raiseMemHl 0 s

/-- SET 0,A, 0xCB 0xC7 (R684). -/
def execSet0A (s : State) : Result := raiseReg 0 .a s

/-- SET 1,B, 0xCB 0xC8 (R684). -/
def execSet1B (s : State) : Result := raiseReg 1 .b s

/-- SET 1,C, 0xCB 0xC9 (R684). -/
def execSet1C (s : State) : Result := raiseReg 1 .c s

/-- SET 1,D, 0xCB 0xCA (R684). -/
def execSet1D (s : State) : Result := raiseReg 1 .d s

/-- SET 1,E, 0xCB 0xCB (R684). -/
def execSet1E (s : State) : Result := raiseReg 1 .e s

/-- SET 1,H, 0xCB 0xCC (R684). -/
def execSet1H (s : State) : Result := raiseReg 1 .h s

/-- SET 1,L, 0xCB 0xCD (R684). -/
def execSet1L (s : State) : Result := raiseReg 1 .l s

/-- SET 1,(HL), 0xCB 0xCE (R685). -/
def execSet1MemHl (s : State) : Result := raiseMemHl 1 s

/-- SET 1,A, 0xCB 0xCF (R684). -/
def execSet1A (s : State) : Result := raiseReg 1 .a s

/-- SET 2,B, 0xCB 0xD0 (R684). -/
def execSet2B (s : State) : Result := raiseReg 2 .b s

/-- SET 2,C, 0xCB 0xD1 (R684). -/
def execSet2C (s : State) : Result := raiseReg 2 .c s

/-- SET 2,D, 0xCB 0xD2 (R684). -/
def execSet2D (s : State) : Result := raiseReg 2 .d s

/-- SET 2,E, 0xCB 0xD3 (R684). -/
def execSet2E (s : State) : Result := raiseReg 2 .e s

/-- SET 2,H, 0xCB 0xD4 (R684). -/
def execSet2H (s : State) : Result := raiseReg 2 .h s

/-- SET 2,L, 0xCB 0xD5 (R684). -/
def execSet2L (s : State) : Result := raiseReg 2 .l s

/-- SET 2,(HL), 0xCB 0xD6 (R685). -/
def execSet2MemHl (s : State) : Result := raiseMemHl 2 s

/-- SET 2,A, 0xCB 0xD7 (R684). -/
def execSet2A (s : State) : Result := raiseReg 2 .a s

/-- SET 3,B, 0xCB 0xD8 (R684). -/
def execSet3B (s : State) : Result := raiseReg 3 .b s

/-- SET 3,C, 0xCB 0xD9 (R684). -/
def execSet3C (s : State) : Result := raiseReg 3 .c s

/-- SET 3,D, 0xCB 0xDA (R684). -/
def execSet3D (s : State) : Result := raiseReg 3 .d s

/-- SET 3,E, 0xCB 0xDB (R684). -/
def execSet3E (s : State) : Result := raiseReg 3 .e s

/-- SET 3,H, 0xCB 0xDC (R684). -/
def execSet3H (s : State) : Result := raiseReg 3 .h s

/-- SET 3,L, 0xCB 0xDD (R684). -/
def execSet3L (s : State) : Result := raiseReg 3 .l s

/-- SET 3,(HL), 0xCB 0xDE (R685). -/
def execSet3MemHl (s : State) : Result := raiseMemHl 3 s

/-- SET 3,A, 0xCB 0xDF (R684). -/
def execSet3A (s : State) : Result := raiseReg 3 .a s

/-- SET 4,B, 0xCB 0xE0 (R684). -/
def execSet4B (s : State) : Result := raiseReg 4 .b s

/-- SET 4,C, 0xCB 0xE1 (R684). -/
def execSet4C (s : State) : Result := raiseReg 4 .c s

/-- SET 4,D, 0xCB 0xE2 (R684). -/
def execSet4D (s : State) : Result := raiseReg 4 .d s

/-- SET 4,E, 0xCB 0xE3 (R684). -/
def execSet4E (s : State) : Result := raiseReg 4 .e s

/-- SET 4,H, 0xCB 0xE4 (R684). -/
def execSet4H (s : State) : Result := raiseReg 4 .h s

/-- SET 4,L, 0xCB 0xE5 (R684). -/
def execSet4L (s : State) : Result := raiseReg 4 .l s

/-- SET 4,(HL), 0xCB 0xE6 (R685). -/
def execSet4MemHl (s : State) : Result := raiseMemHl 4 s

/-- SET 4,A, 0xCB 0xE7 (R684). -/
def execSet4A (s : State) : Result := raiseReg 4 .a s

/-- SET 5,B, 0xCB 0xE8 (R684). -/
def execSet5B (s : State) : Result := raiseReg 5 .b s

/-- SET 5,C, 0xCB 0xE9 (R684). -/
def execSet5C (s : State) : Result := raiseReg 5 .c s

/-- SET 5,D, 0xCB 0xEA (R684). -/
def execSet5D (s : State) : Result := raiseReg 5 .d s

/-- SET 5,E, 0xCB 0xEB (R684). -/
def execSet5E (s : State) : Result := raiseReg 5 .e s

/-- SET 5,H, 0xCB 0xEC (R684). -/
def execSet5H (s : State) : Result := raiseReg 5 .h s

/-- SET 5,L, 0xCB 0xED (R684). -/
def execSet5L (s : State) : Result := raiseReg 5 .l s

/-- SET 5,(HL), 0xCB 0xEE (R685). -/
def execSet5MemHl (s : State) : Result := raiseMemHl 5 s

/-- SET 5,A, 0xCB 0xEF (R684). -/
def execSet5A (s : State) : Result := raiseReg 5 .a s

/-- SET 6,B, 0xCB 0xF0 (R684). -/
def execSet6B (s : State) : Result := raiseReg 6 .b s

/-- SET 6,C, 0xCB 0xF1 (R684). -/
def execSet6C (s : State) : Result := raiseReg 6 .c s

/-- SET 6,D, 0xCB 0xF2 (R684). -/
def execSet6D (s : State) : Result := raiseReg 6 .d s

/-- SET 6,E, 0xCB 0xF3 (R684). -/
def execSet6E (s : State) : Result := raiseReg 6 .e s

/-- SET 6,H, 0xCB 0xF4 (R684). -/
def execSet6H (s : State) : Result := raiseReg 6 .h s

/-- SET 6,L, 0xCB 0xF5 (R684). -/
def execSet6L (s : State) : Result := raiseReg 6 .l s

/-- SET 6,(HL), 0xCB 0xF6 (R685). -/
def execSet6MemHl (s : State) : Result := raiseMemHl 6 s

/-- SET 6,A, 0xCB 0xF7 (R684). -/
def execSet6A (s : State) : Result := raiseReg 6 .a s

/-- SET 7,B, 0xCB 0xF8 (R684). -/
def execSet7B (s : State) : Result := raiseReg 7 .b s

/-- SET 7,C, 0xCB 0xF9 (R684). -/
def execSet7C (s : State) : Result := raiseReg 7 .c s

/-- SET 7,D, 0xCB 0xFA (R684). -/
def execSet7D (s : State) : Result := raiseReg 7 .d s

/-- SET 7,E, 0xCB 0xFB (R684). -/
def execSet7E (s : State) : Result := raiseReg 7 .e s

/-- SET 7,H, 0xCB 0xFC (R684). -/
def execSet7H (s : State) : Result := raiseReg 7 .h s

/-- SET 7,L, 0xCB 0xFD (R684). -/
def execSet7L (s : State) : Result := raiseReg 7 .l s

/-- SET 7,(HL), 0xCB 0xFE (R685). -/
def execSet7MemHl (s : State) : Result := raiseMemHl 7 s

/-- SET 7,A, 0xCB 0xFF (R684). -/
def execSet7A (s : State) : Result := raiseReg 7 .a s

end Sys2Proof.Machine
end

