-- ==== Sys2Proof/Machine/Control.lean ====
section
/-! DEFINITION. Control transfer (spec/45_control.md). None writes a flag. PC is the address of the next instruction. -/

namespace Sys2Proof.Machine

/-- `push16(PC); PC <- a`. -/
def State.call (s : State) (a : Word) : State := (s.push16 s.pc).setPc a

/-- `PC <- pop16()`. -/
def State.ret (s : State) : State := s.popped.setPc s.popValue

/-- A conditional jump, with its costs taken and not taken (R751, R754). -/
def jumpIf (cc : Cond) (a : Word) (taken notTaken : Nat) (s : State) : Result :=
  if s.flags.cond cc then .next ((s.setPc a).charge taken) else .next (s.charge notTaken)

/-- CALL cc,a16 (R756). -/
def callIf (cc : Cond) (a : Word) (s : State) : Result :=
  if s.flags.cond cc then .next ((s.call a).charge 24) else .next (s.charge 12)

/-- RET cc (R758). -/
def returnIf (cc : Cond) (s : State) : Result :=
  if s.flags.cond cc then .next (s.ret.charge 20) else .next (s.charge 8)

/-- RST t (R761). -/
def restart (t : Word) (s : State) : Result := .next ((s.call t).charge 16)

/-! ### One meaning a row -/

/-- JR e8, 0x18 (R753). -/
def execJrE8 (e : Byte) (s : State) : Result := .next ((s.setPc (s.pc + signExtend16 e)).charge 12)

/-- JR NZ,e8, 0x20 (R754). -/
def execJrNzE8 (e : Byte) (s : State) : Result := jumpIf .nz (s.pc + signExtend16 e) 12 8 s

/-- JR Z,e8, 0x28 (R754). -/
def execJrZE8 (e : Byte) (s : State) : Result := jumpIf .z (s.pc + signExtend16 e) 12 8 s

/-- JR NC,e8, 0x30 (R754). -/
def execJrNcE8 (e : Byte) (s : State) : Result := jumpIf .nc (s.pc + signExtend16 e) 12 8 s

/-- JR C,e8, 0x38 (R754). -/
def execJrCE8 (e : Byte) (s : State) : Result := jumpIf .c (s.pc + signExtend16 e) 12 8 s

/-- RET NZ, 0xC0 (R758). -/
def execRetNz (s : State) : Result := returnIf .nz s

/-- JP NZ,a16, 0xC2 (R751). -/
def execJpNzA16 (a : Word) (s : State) : Result := jumpIf .nz a 16 12 s

/-- JP a16, 0xC3 (R750). -/
def execJpA16 (a : Word) (s : State) : Result := .next ((s.setPc a).charge 16)

/-- CALL NZ,a16, 0xC4 (R756). -/
def execCallNzA16 (a : Word) (s : State) : Result := callIf .nz a s

/-- RST 00H, 0xC7 (R761). -/
def execRst00h (s : State) : Result := restart 0x0000 s

/-- RET Z, 0xC8 (R758). -/
def execRetZ (s : State) : Result := returnIf .z s

/-- RET, 0xC9 (R757). -/
def execRet (s : State) : Result := .next (s.ret.charge 16)

/-- JP Z,a16, 0xCA (R751). -/
def execJpZA16 (a : Word) (s : State) : Result := jumpIf .z a 16 12 s

/-- CALL Z,a16, 0xCC (R756). -/
def execCallZA16 (a : Word) (s : State) : Result := callIf .z a s

/-- CALL a16, 0xCD (R755). -/
def execCallA16 (a : Word) (s : State) : Result := .next ((s.call a).charge 24)

/-- RST 08H, 0xCF (R761). -/
def execRst08h (s : State) : Result := restart 0x0008 s

/-- RET NC, 0xD0 (R758). -/
def execRetNc (s : State) : Result := returnIf .nc s

/-- JP NC,a16, 0xD2 (R751). -/
def execJpNcA16 (a : Word) (s : State) : Result := jumpIf .nc a 16 12 s

/-- CALL NC,a16, 0xD4 (R756). -/
def execCallNcA16 (a : Word) (s : State) : Result := callIf .nc a s

/-- RST 10H, 0xD7 (R761). -/
def execRst10h (s : State) : Result := restart 0x0010 s

/-- RET C, 0xD8 (R758). -/
def execRetC (s : State) : Result := returnIf .c s

/-- RETI, 0xD9 (R760). -/
def execReti (s : State) : Result := .next (s.returnFromInterrupt.charge 16)

/-- JP C,a16, 0xDA (R751). -/
def execJpCA16 (a : Word) (s : State) : Result := jumpIf .c a 16 12 s

/-- CALL C,a16, 0xDC (R756). -/
def execCallCA16 (a : Word) (s : State) : Result := callIf .c a s

/-- RST 18H, 0xDF (R761). -/
def execRst18h (s : State) : Result := restart 0x0018 s

/-- RST 20H, 0xE7 (R761). -/
def execRst20h (s : State) : Result := restart 0x0020 s

/-- JP HL, 0xE9 (R752). -/
def execJpHl (s : State) : Result := .next ((s.setPc s.hl).charge 4)

/-- RST 28H, 0xEF (R761). -/
def execRst28h (s : State) : Result := restart 0x0028 s

/-- RST 30H, 0xF7 (R761). -/
def execRst30h (s : State) : Result := restart 0x0030 s

/-- RST 38H, 0xFF (R761). -/
def execRst38h (s : State) : Result := restart 0x0038 s

end Sys2Proof.Machine
end

