-- ==== Sys2Proof/Machine/Rotate.lean ====
section
/-! DEFINITION. The accumulator rotates and the rotates and shifts after 0xCB (spec/44_rotate_shift_bit.md §1, §2). -/

namespace Sys2Proof.Machine

/-- RLCA, RRCA, RLA, RRA (R650 to R653). -/
def rotateA (op : RotOp) (s : State) : Result :=
  let r := rot8 op s.a s.flags.c
  .next ((s.setAFlags (r.1, rotAFlags r)).charge 4)

/-- A rotate or shift of a register (R661 to R675). -/
def rotateReg (op : RotOp) (r : Reg8) (s : State) : Result :=
  let v := rot8 op (s.reg r) s.flags.c
  .next (((s.setReg r v.1).setFlags (rotFlags v)).charge 8)

/-- A rotate or shift of the byte at HL: read, then write, even where the value stays (R662 to R676). -/
def rotateMemHl (op : RotOp) (s : State) : Result :=
  let v := rot8 op (s.read s.hl) s.flags.c
  .next ((((s.afterRead s.hl).write s.hl v.1).setFlags (rotFlags v)).charge 16)

/-! ### One meaning a row -/

/-- RLCA, 0x07 (R650). -/
def execRlca (s : State) : Result := rotateA .rlc s

/-- RRCA, 0x0F (R651). -/
def execRrca (s : State) : Result := rotateA .rrc s

/-- RLA, 0x17 (R652). -/
def execRla (s : State) : Result := rotateA .rl s

/-- RRA, 0x1F (R653). -/
def execRra (s : State) : Result := rotateA .rr s

/-- RLC B, 0xCB 0x00 (R661). -/
def execRlcB (s : State) : Result := rotateReg .rlc .b s

/-- RLC C, 0xCB 0x01 (R661). -/
def execRlcC (s : State) : Result := rotateReg .rlc .c s

/-- RLC D, 0xCB 0x02 (R661). -/
def execRlcD (s : State) : Result := rotateReg .rlc .d s

/-- RLC E, 0xCB 0x03 (R661). -/
def execRlcE (s : State) : Result := rotateReg .rlc .e s

/-- RLC H, 0xCB 0x04 (R661). -/
def execRlcH (s : State) : Result := rotateReg .rlc .h s

/-- RLC L, 0xCB 0x05 (R661). -/
def execRlcL (s : State) : Result := rotateReg .rlc .l s

/-- RLC (HL), 0xCB 0x06 (R662). -/
def execRlcMemHl (s : State) : Result := rotateMemHl .rlc s

/-- RLC A, 0xCB 0x07 (R661). -/
def execRlcA (s : State) : Result := rotateReg .rlc .a s

/-- RRC B, 0xCB 0x08 (R663). -/
def execRrcB (s : State) : Result := rotateReg .rrc .b s

/-- RRC C, 0xCB 0x09 (R663). -/
def execRrcC (s : State) : Result := rotateReg .rrc .c s

/-- RRC D, 0xCB 0x0A (R663). -/
def execRrcD (s : State) : Result := rotateReg .rrc .d s

/-- RRC E, 0xCB 0x0B (R663). -/
def execRrcE (s : State) : Result := rotateReg .rrc .e s

/-- RRC H, 0xCB 0x0C (R663). -/
def execRrcH (s : State) : Result := rotateReg .rrc .h s

/-- RRC L, 0xCB 0x0D (R663). -/
def execRrcL (s : State) : Result := rotateReg .rrc .l s

/-- RRC (HL), 0xCB 0x0E (R664). -/
def execRrcMemHl (s : State) : Result := rotateMemHl .rrc s

/-- RRC A, 0xCB 0x0F (R663). -/
def execRrcA (s : State) : Result := rotateReg .rrc .a s

/-- RL B, 0xCB 0x10 (R665). -/
def execRlB (s : State) : Result := rotateReg .rl .b s

/-- RL C, 0xCB 0x11 (R665). -/
def execRlC (s : State) : Result := rotateReg .rl .c s

/-- RL D, 0xCB 0x12 (R665). -/
def execRlD (s : State) : Result := rotateReg .rl .d s

/-- RL E, 0xCB 0x13 (R665). -/
def execRlE (s : State) : Result := rotateReg .rl .e s

/-- RL H, 0xCB 0x14 (R665). -/
def execRlH (s : State) : Result := rotateReg .rl .h s

/-- RL L, 0xCB 0x15 (R665). -/
def execRlL (s : State) : Result := rotateReg .rl .l s

/-- RL (HL), 0xCB 0x16 (R666). -/
def execRlMemHl (s : State) : Result := rotateMemHl .rl s

/-- RL A, 0xCB 0x17 (R665). -/
def execRlA (s : State) : Result := rotateReg .rl .a s

/-- RR B, 0xCB 0x18 (R667). -/
def execRrB (s : State) : Result := rotateReg .rr .b s

/-- RR C, 0xCB 0x19 (R667). -/
def execRrC (s : State) : Result := rotateReg .rr .c s

/-- RR D, 0xCB 0x1A (R667). -/
def execRrD (s : State) : Result := rotateReg .rr .d s

/-- RR E, 0xCB 0x1B (R667). -/
def execRrE (s : State) : Result := rotateReg .rr .e s

/-- RR H, 0xCB 0x1C (R667). -/
def execRrH (s : State) : Result := rotateReg .rr .h s

/-- RR L, 0xCB 0x1D (R667). -/
def execRrL (s : State) : Result := rotateReg .rr .l s

/-- RR (HL), 0xCB 0x1E (R668). -/
def execRrMemHl (s : State) : Result := rotateMemHl .rr s

/-- RR A, 0xCB 0x1F (R667). -/
def execRrA (s : State) : Result := rotateReg .rr .a s

/-- SLA B, 0xCB 0x20 (R669). -/
def execSlaB (s : State) : Result := rotateReg .sla .b s

/-- SLA C, 0xCB 0x21 (R669). -/
def execSlaC (s : State) : Result := rotateReg .sla .c s

/-- SLA D, 0xCB 0x22 (R669). -/
def execSlaD (s : State) : Result := rotateReg .sla .d s

/-- SLA E, 0xCB 0x23 (R669). -/
def execSlaE (s : State) : Result := rotateReg .sla .e s

/-- SLA H, 0xCB 0x24 (R669). -/
def execSlaH (s : State) : Result := rotateReg .sla .h s

/-- SLA L, 0xCB 0x25 (R669). -/
def execSlaL (s : State) : Result := rotateReg .sla .l s

/-- SLA (HL), 0xCB 0x26 (R670). -/
def execSlaMemHl (s : State) : Result := rotateMemHl .sla s

/-- SLA A, 0xCB 0x27 (R669). -/
def execSlaA (s : State) : Result := rotateReg .sla .a s

/-- SRA B, 0xCB 0x28 (R671). -/
def execSraB (s : State) : Result := rotateReg .sra .b s

/-- SRA C, 0xCB 0x29 (R671). -/
def execSraC (s : State) : Result := rotateReg .sra .c s

/-- SRA D, 0xCB 0x2A (R671). -/
def execSraD (s : State) : Result := rotateReg .sra .d s

/-- SRA E, 0xCB 0x2B (R671). -/
def execSraE (s : State) : Result := rotateReg .sra .e s

/-- SRA H, 0xCB 0x2C (R671). -/
def execSraH (s : State) : Result := rotateReg .sra .h s

/-- SRA L, 0xCB 0x2D (R671). -/
def execSraL (s : State) : Result := rotateReg .sra .l s

/-- SRA (HL), 0xCB 0x2E (R672). -/
def execSraMemHl (s : State) : Result := rotateMemHl .sra s

/-- SRA A, 0xCB 0x2F (R671). -/
def execSraA (s : State) : Result := rotateReg .sra .a s

/-- SWAP B, 0xCB 0x30 (R673). -/
def execSwapB (s : State) : Result := rotateReg .swap .b s

/-- SWAP C, 0xCB 0x31 (R673). -/
def execSwapC (s : State) : Result := rotateReg .swap .c s

/-- SWAP D, 0xCB 0x32 (R673). -/
def execSwapD (s : State) : Result := rotateReg .swap .d s

/-- SWAP E, 0xCB 0x33 (R673). -/
def execSwapE (s : State) : Result := rotateReg .swap .e s

/-- SWAP H, 0xCB 0x34 (R673). -/
def execSwapH (s : State) : Result := rotateReg .swap .h s

/-- SWAP L, 0xCB 0x35 (R673). -/
def execSwapL (s : State) : Result := rotateReg .swap .l s

/-- SWAP (HL), 0xCB 0x36 (R674). -/
def execSwapMemHl (s : State) : Result := rotateMemHl .swap s

/-- SWAP A, 0xCB 0x37 (R673). -/
def execSwapA (s : State) : Result := rotateReg .swap .a s

/-- SRL B, 0xCB 0x38 (R675). -/
def execSrlB (s : State) : Result := rotateReg .srl .b s

/-- SRL C, 0xCB 0x39 (R675). -/
def execSrlC (s : State) : Result := rotateReg .srl .c s

/-- SRL D, 0xCB 0x3A (R675). -/
def execSrlD (s : State) : Result := rotateReg .srl .d s

/-- SRL E, 0xCB 0x3B (R675). -/
def execSrlE (s : State) : Result := rotateReg .srl .e s

/-- SRL H, 0xCB 0x3C (R675). -/
def execSrlH (s : State) : Result := rotateReg .srl .h s

/-- SRL L, 0xCB 0x3D (R675). -/
def execSrlL (s : State) : Result := rotateReg .srl .l s

/-- SRL (HL), 0xCB 0x3E (R676). -/
def execSrlMemHl (s : State) : Result := rotateMemHl .srl s

/-- SRL A, 0xCB 0x3F (R675). -/
def execSrlA (s : State) : Result := rotateReg .srl .a s

end Sys2Proof.Machine
end

