-- ==== Sys2Proof/Machine/Cpu.lean ====
section
/-! DEFINITION. CPU control, the prefix and the illegal bytes (spec/46_cpu_control.md). -/

namespace Sys2Proof.Machine

/-- The instruction a byte after 0xCB selects, by its fields (R802, R312). -/
def runCb (op : Byte) (s : State) : Result :=
  match opX op, Reg8.ofCode (opZ op) with
  | 0, some r => rotateReg (RotOp.ofCode (opY op)) r s
  | 0, none   => rotateMemHl (RotOp.ofCode (opY op)) s
  | 1, some r => testReg (opY op) r s
  | 1, none   => testMemHl (opY op) s
  | 2, some r => resetReg (opY op) r s
  | 2, none   => resetMemHl (opY op) s
  | 3, some r => raiseReg (opY op) r s
  | 3, none   => raiseMemHl (opY op) s

/-- An illegal byte: the fault is raised and PC stays at the byte (R806). -/
def illegal (op : Byte) (s : State) : Result := .next (s.raiseFault (.illegalOpcode op) 1)

/-! ### One meaning a row -/

/-- NOP, 0x00 (R800). -/
def execNop (s : State) : Result := .next (s.charge 4)

/-- STOP, 0x10 (R803). DESIGN CHOICE (log 23): under `STOP_MODE = fault` both bytes have been read through the bus when the fault is
raised. -/
def execStop (_n : Byte) (s : State) : Result :=
  match s.params.stopMode with
  | .fault => .next (s.raiseFault .unmodelledStop 2)
  | .nop2  => .next (s.charge 4)

/-- HALT, 0x76 (R801). -/
def execHalt (s : State) : Result := .next ({ s with halted := true }.charge 4)

/-- PREFIX CB, 0xCB (R802). -/
def execPrefixCb (op : Byte) (s : State) : Result := runCb op s

/-- (illegal 0xD3), 0xD3 (R806). -/
def execIllegalD3 (s : State) : Result := illegal 0xD3 s

/-- (illegal 0xDB), 0xDB (R806). -/
def execIllegalDB (s : State) : Result := illegal 0xDB s

/-- (illegal 0xDD), 0xDD (R806). -/
def execIllegalDD (s : State) : Result := illegal 0xDD s

/-- (illegal 0xE3), 0xE3 (R806). -/
def execIllegalE3 (s : State) : Result := illegal 0xE3 s

/-- (illegal 0xE4), 0xE4 (R806). -/
def execIllegalE4 (s : State) : Result := illegal 0xE4 s

/-- (illegal 0xEB), 0xEB (R806). -/
def execIllegalEB (s : State) : Result := illegal 0xEB s

/-- (illegal 0xEC), 0xEC (R806). -/
def execIllegalEC (s : State) : Result := illegal 0xEC s

/-- (illegal 0xED), 0xED (R806). -/
def execIllegalED (s : State) : Result := illegal 0xED s

/-- DI, 0xF3 (R804). -/
def execDi (s : State) : Result := .next ({ s with ime := false, eiDelay := 0 }.charge 4)

/-- (illegal 0xF4), 0xF4 (R806). -/
def execIllegalF4 (s : State) : Result := illegal 0xF4 s

/-- EI, 0xFB (R805). -/
def execEi (s : State) : Result := .next ({ s with eiDelay := if s.ime = false ∧ s.eiDelay = 0 then 2 else s.eiDelay }.charge 4)

/-- (illegal 0xFC), 0xFC (R806). -/
def execIllegalFC (s : State) : Result := illegal 0xFC s

/-- (illegal 0xFD), 0xFD (R806). -/
def execIllegalFD (s : State) : Result := illegal 0xFD s

end Sys2Proof.Machine
end

