-- ==== Sys2Proof/Machine/Load16.lean ====
section
/-! DEFINITION. The 16-bit loads and stack transfers (spec/41_load16.md). -/

namespace Sys2Proof.Machine

/-- LD dd,n16 (R450). -/
def loadPairImm (p : PairSp) (n : Word) (s : State) : Result := .next ((s.setPairSp p n).charge 12)

/-- PUSH qq (R453). -/
def push (p : PairAf) (s : State) : Result := .next ((s.push16 (s.pairAf p)).charge 16)

/-- POP qq (R454); POP AF keeps F[3:0] zero and so writes the four flags (R455). -/
def pop (p : PairAf) (s : State) : Result := .next ((s.popped.setPairAf p s.popValue).charge 12)

/-! ### One meaning a row -/

/-- LD BC,n16, 0x01 (R450). -/
def execLdBcN16 (n : Word) (s : State) : Result := loadPairImm .bc n s

/-- LD (a16),SP, 0x08 (R451). -/
def execLdMemA16Sp (a : Word) (s : State) : Result := .next ((s.write16 a s.sp).charge 20)

/-- LD DE,n16, 0x11 (R450). -/
def execLdDeN16 (n : Word) (s : State) : Result := loadPairImm .de n s

/-- LD HL,n16, 0x21 (R450). -/
def execLdHlN16 (n : Word) (s : State) : Result := loadPairImm .hl n s

/-- LD SP,n16, 0x31 (R450). -/
def execLdSpN16 (n : Word) (s : State) : Result := loadPairImm .sp n s

/-- POP BC, 0xC1 (R454). -/
def execPopBc (s : State) : Result := pop .bc s

/-- PUSH BC, 0xC5 (R453). -/
def execPushBc (s : State) : Result := push .bc s

/-- POP DE, 0xD1 (R454). -/
def execPopDe (s : State) : Result := pop .de s

/-- PUSH DE, 0xD5 (R453). -/
def execPushDe (s : State) : Result := push .de s

/-- POP HL, 0xE1 (R454). -/
def execPopHl (s : State) : Result := pop .hl s

/-- PUSH HL, 0xE5 (R453). -/
def execPushHl (s : State) : Result := push .hl s

/-- POP AF, 0xF1 (R455). -/
def execPopAf (s : State) : Result := pop .af s

/-- PUSH AF, 0xF5 (R453). -/
def execPushAf (s : State) : Result := push .af s

/-- LD HL,SP+e8, 0xF8 (R456). -/
def execLdHlSpE8 (e : Byte) (s : State) : Result :=
  let r := spe8 s.sp e
  .next (((s.setHl r.1).setFlags r.2).charge 12)

/-- LD SP,HL, 0xF9 (R452). -/
def execLdSpHl (s : State) : Result := .next ((s.setSp s.hl).charge 8)

end Sys2Proof.Machine
end

