-- ==== Sys2Proof/Machine/Load8.lean ====
section
/-! DEFINITION. The 8-bit loads (spec/40_load8.md). No 8-bit load writes a flag. -/

namespace Sys2Proof.Machine

/-- LD r,r' (R400). -/
def loadReg (dst src : Reg8) (s : State) : Result := .next ((s.setReg dst (s.reg src)).charge 4)

/-- LD r,n8 (R401). -/
def loadImm (dst : Reg8) (n : Byte) (s : State) : Result := .next ((s.setReg dst n).charge 8)

/-- LD r,(HL): the address is HL from before the write (R402). -/
def loadRegMemHl (dst : Reg8) (s : State) : Result := .next (((s.afterRead s.hl).setReg dst (s.read s.hl)).charge 8)

/-- LD (HL),r (R403). -/
def storeMemHlReg (r : Reg8) (s : State) : Result := .next ((s.write s.hl (s.reg r)).charge 8)

/-- Load A from an address; the state is the one the read leaves. -/
def loadAFrom (addr : Word) (n : Nat) (s : State) : Result := .next (((s.afterRead addr).setReg .a (s.read addr)).charge n)

/-- Store A to an address. -/
def storeATo (addr : Word) (n : Nat) (s : State) : Result := .next ((s.write addr s.a).charge n)

/-- Store A at HL, then add to HL, modulo 2^16 and with no flag (R415, R416). -/
def storeAThenHl (delta : Word) (s : State) : Result := .next (((s.write s.hl s.a).setHl (s.hl + delta)).charge 8)

/-- Load A from HL, then add to HL, modulo 2^16 and with no flag (R417, R418). -/
def loadAThenHl (delta : Word) (s : State) : Result := .next ((((s.afterRead s.hl).setReg .a (s.read s.hl)).setHl (s.hl + delta)).charge 8)

/-! ### One meaning a row -/

/-- LD (BC),A, 0x02 (R407). -/
def execLdMemBcA (s : State) : Result := storeATo s.bc 8 s

/-- LD B,n8, 0x06 (R401). -/
def execLdBN8 (n : Byte) (s : State) : Result := loadImm .b n s

/-- LD A,(BC), 0x0A (R405). -/
def execLdAMemBc (s : State) : Result := loadAFrom s.bc 8 s

/-- LD C,n8, 0x0E (R401). -/
def execLdCN8 (n : Byte) (s : State) : Result := loadImm .c n s

/-- LD (DE),A, 0x12 (R408). -/
def execLdMemDeA (s : State) : Result := storeATo s.de 8 s

/-- LD D,n8, 0x16 (R401). -/
def execLdDN8 (n : Byte) (s : State) : Result := loadImm .d n s

/-- LD A,(DE), 0x1A (R406). -/
def execLdAMemDe (s : State) : Result := loadAFrom s.de 8 s

/-- LD E,n8, 0x1E (R401). -/
def execLdEN8 (n : Byte) (s : State) : Result := loadImm .e n s

/-- LD (HL+),A, 0x22 (R415). -/
def execLdMemHlIncA (s : State) : Result := storeAThenHl 1 s

/-- LD H,n8, 0x26 (R401). -/
def execLdHN8 (n : Byte) (s : State) : Result := loadImm .h n s

/-- LD A,(HL+), 0x2A (R417). -/
def execLdAMemHlInc (s : State) : Result := loadAThenHl 1 s

/-- LD L,n8, 0x2E (R401). -/
def execLdLN8 (n : Byte) (s : State) : Result := loadImm .l n s

/-- LD (HL-),A, 0x32 (R416). -/
def execLdMemHlDecA (s : State) : Result := storeAThenHl (-1) s

/-- LD (HL),n8, 0x36 (R404). -/
def execLdMemHlN8 (n : Byte) (s : State) : Result := .next ((s.write s.hl n).charge 12)

/-- LD A,(HL-), 0x3A (R418). -/
def execLdAMemHlDec (s : State) : Result := loadAThenHl (-1) s

/-- LD A,n8, 0x3E (R401). -/
def execLdAN8 (n : Byte) (s : State) : Result := loadImm .a n s

/-- LD B,B, 0x40 (R400). -/
def execLdBB (s : State) : Result := loadReg .b .b s

/-- LD B,C, 0x41 (R400). -/
def execLdBC (s : State) : Result := loadReg .b .c s

/-- LD B,D, 0x42 (R400). -/
def execLdBD (s : State) : Result := loadReg .b .d s

/-- LD B,E, 0x43 (R400). -/
def execLdBE (s : State) : Result := loadReg .b .e s

/-- LD B,H, 0x44 (R400). -/
def execLdBH (s : State) : Result := loadReg .b .h s

/-- LD B,L, 0x45 (R400). -/
def execLdBL (s : State) : Result := loadReg .b .l s

/-- LD B,(HL), 0x46 (R402). -/
def execLdBMemHl (s : State) : Result := loadRegMemHl .b s

/-- LD B,A, 0x47 (R400). -/
def execLdBA (s : State) : Result := loadReg .b .a s

/-- LD C,B, 0x48 (R400). -/
def execLdCB (s : State) : Result := loadReg .c .b s

/-- LD C,C, 0x49 (R400). -/
def execLdCC (s : State) : Result := loadReg .c .c s

/-- LD C,D, 0x4A (R400). -/
def execLdCD (s : State) : Result := loadReg .c .d s

/-- LD C,E, 0x4B (R400). -/
def execLdCE (s : State) : Result := loadReg .c .e s

/-- LD C,H, 0x4C (R400). -/
def execLdCH (s : State) : Result := loadReg .c .h s

/-- LD C,L, 0x4D (R400). -/
def execLdCL (s : State) : Result := loadReg .c .l s

/-- LD C,(HL), 0x4E (R402). -/
def execLdCMemHl (s : State) : Result := loadRegMemHl .c s

/-- LD C,A, 0x4F (R400). -/
def execLdCA (s : State) : Result := loadReg .c .a s

/-- LD D,B, 0x50 (R400). -/
def execLdDB (s : State) : Result := loadReg .d .b s

/-- LD D,C, 0x51 (R400). -/
def execLdDC (s : State) : Result := loadReg .d .c s

/-- LD D,D, 0x52 (R400). -/
def execLdDD (s : State) : Result := loadReg .d .d s

/-- LD D,E, 0x53 (R400). -/
def execLdDE (s : State) : Result := loadReg .d .e s

/-- LD D,H, 0x54 (R400). -/
def execLdDH (s : State) : Result := loadReg .d .h s

/-- LD D,L, 0x55 (R400). -/
def execLdDL (s : State) : Result := loadReg .d .l s

/-- LD D,(HL), 0x56 (R402). -/
def execLdDMemHl (s : State) : Result := loadRegMemHl .d s

/-- LD D,A, 0x57 (R400). -/
def execLdDA (s : State) : Result := loadReg .d .a s

/-- LD E,B, 0x58 (R400). -/
def execLdEB (s : State) : Result := loadReg .e .b s

/-- LD E,C, 0x59 (R400). -/
def execLdEC (s : State) : Result := loadReg .e .c s

/-- LD E,D, 0x5A (R400). -/
def execLdED (s : State) : Result := loadReg .e .d s

/-- LD E,E, 0x5B (R400). -/
def execLdEE (s : State) : Result := loadReg .e .e s

/-- LD E,H, 0x5C (R400). -/
def execLdEH (s : State) : Result := loadReg .e .h s

/-- LD E,L, 0x5D (R400). -/
def execLdEL (s : State) : Result := loadReg .e .l s

/-- LD E,(HL), 0x5E (R402). -/
def execLdEMemHl (s : State) : Result := loadRegMemHl .e s

/-- LD E,A, 0x5F (R400). -/
def execLdEA (s : State) : Result := loadReg .e .a s

/-- LD H,B, 0x60 (R400). -/
def execLdHB (s : State) : Result := loadReg .h .b s

/-- LD H,C, 0x61 (R400). -/
def execLdHC (s : State) : Result := loadReg .h .c s

/-- LD H,D, 0x62 (R400). -/
def execLdHD (s : State) : Result := loadReg .h .d s

/-- LD H,E, 0x63 (R400). -/
def execLdHE (s : State) : Result := loadReg .h .e s

/-- LD H,H, 0x64 (R400). -/
def execLdHH (s : State) : Result := loadReg .h .h s

/-- LD H,L, 0x65 (R400). -/
def execLdHL (s : State) : Result := loadReg .h .l s

/-- LD H,(HL), 0x66 (R402). -/
def execLdHMemHl (s : State) : Result := loadRegMemHl .h s

/-- LD H,A, 0x67 (R400). -/
def execLdHA (s : State) : Result := loadReg .h .a s

/-- LD L,B, 0x68 (R400). -/
def execLdLB (s : State) : Result := loadReg .l .b s

/-- LD L,C, 0x69 (R400). -/
def execLdLC (s : State) : Result := loadReg .l .c s

/-- LD L,D, 0x6A (R400). -/
def execLdLD (s : State) : Result := loadReg .l .d s

/-- LD L,E, 0x6B (R400). -/
def execLdLE (s : State) : Result := loadReg .l .e s

/-- LD L,H, 0x6C (R400). -/
def execLdLH (s : State) : Result := loadReg .l .h s

/-- LD L,L, 0x6D (R400). -/
def execLdLL (s : State) : Result := loadReg .l .l s

/-- LD L,(HL), 0x6E (R402). -/
def execLdLMemHl (s : State) : Result := loadRegMemHl .l s

/-- LD L,A, 0x6F (R400). -/
def execLdLA (s : State) : Result := loadReg .l .a s

/-- LD (HL),B, 0x70 (R403). -/
def execLdMemHlB (s : State) : Result := storeMemHlReg .b s

/-- LD (HL),C, 0x71 (R403). -/
def execLdMemHlC (s : State) : Result := storeMemHlReg .c s

/-- LD (HL),D, 0x72 (R403). -/
def execLdMemHlD (s : State) : Result := storeMemHlReg .d s

/-- LD (HL),E, 0x73 (R403). -/
def execLdMemHlE (s : State) : Result := storeMemHlReg .e s

/-- LD (HL),H, 0x74 (R403). -/
def execLdMemHlH (s : State) : Result := storeMemHlReg .h s

/-- LD (HL),L, 0x75 (R403). -/
def execLdMemHlL (s : State) : Result := storeMemHlReg .l s

/-- LD (HL),A, 0x77 (R403). -/
def execLdMemHlA (s : State) : Result := storeMemHlReg .a s

/-- LD A,B, 0x78 (R400). -/
def execLdAB (s : State) : Result := loadReg .a .b s

/-- LD A,C, 0x79 (R400). -/
def execLdAC (s : State) : Result := loadReg .a .c s

/-- LD A,D, 0x7A (R400). -/
def execLdAD (s : State) : Result := loadReg .a .d s

/-- LD A,E, 0x7B (R400). -/
def execLdAE (s : State) : Result := loadReg .a .e s

/-- LD A,H, 0x7C (R400). -/
def execLdAH (s : State) : Result := loadReg .a .h s

/-- LD A,L, 0x7D (R400). -/
def execLdAL (s : State) : Result := loadReg .a .l s

/-- LD A,(HL), 0x7E (R402). -/
def execLdAMemHl (s : State) : Result := loadRegMemHl .a s

/-- LD A,A, 0x7F (R400). -/
def execLdAA (s : State) : Result := loadReg .a .a s

/-- LDH (a8),A, 0xE0 (R412). -/
def execLdhMemA8A (n : Byte) (s : State) : Result := storeATo (highPage n) 12 s

/-- LD (C),A, 0xE2 (R414). -/
def execLdMemCA (s : State) : Result := storeATo (highPage s.c) 8 s

/-- LD (a16),A, 0xEA (R410). -/
def execLdMemA16A (a : Word) (s : State) : Result := storeATo a 16 s

/-- LDH A,(a8), 0xF0 (R411). -/
def execLdhAMemA8 (n : Byte) (s : State) : Result := loadAFrom (highPage n) 12 s

/-- LD A,(C), 0xF2 (R413). -/
def execLdAMemC (s : State) : Result := loadAFrom (highPage s.c) 8 s

/-- LD A,(a16), 0xFA (R409). -/
def execLdAMemA16 (a : Word) (s : State) : Result := loadAFrom a 16 s

end Sys2Proof.Machine
end

