-- ==== Sys2Proof/Machine/Step.lean ====
section
/-! DEFINITION. One step (spec/60_exceptions.md R900), and the host's way to place an instruction. -/

namespace Sys2Proof.Machine

/-- One step. In this order: no step from a faulted state (R906); an enabled pending interrupt is dispatched (R910); a halted
machine with a pending interrupt wakes (R903); a halted machine idles (R902); else one instruction is executed (R904), with
the bookkeeping after it (R905). IE and IF are read once, at the start (R901). -/
def step (s : State) : Host.Outcome State Fault Refusal :=
  match s.fault with
  | some r => .fault (.stopped r)
  | none =>
    if s.pending ≠ 0 ∧ s.ime = true then s.dispatch.completed
    else if s.pending ≠ 0 ∧ s.halted = true then s.wake.completed
    else if s.halted = true then s.idle.completed
    else afterExec (exec s.fetched s.pastFetch)

/-- `s` with the instruction of an opcode-table word placed at PC, so that the next step runs it (log 16). -/
def State.withFetchWord (s : State) (nbits w : Nat) : State := s.withProgram (tableBytes nbits w)

end Sys2Proof.Machine
end

