-- ==== Sys2Proof/Machine/Facade.lean ====
section
/-! DEFINITION. The façade's host interface (spec/60_exceptions.md R956). -/

namespace Sys2Proof.Machine

/-- `tick()`: one step; its cost is the next state's `cost`. -/
def tick (s : State) : Host.Outcome State Fault Refusal := step s

/-- How a run of many steps ended. -/
inductive RunEnd where
  /-- What was waited for has come. -/
  | elapsed (s : State)
  /-- The machine has stopped in `s` (R906). -/
  | stopped (s : State) (r : Fault)
  /-- A step was refused in `s`; no step of this machine is. -/
  | refused (s : State) (r : Refusal)
  /-- The steps allowed have run, and what was waited for has not come. -/
  | unfinished (s : State)
deriving DecidableEq, Repr

/-- Step until at least `budget` T-states have been returned, for at most `fuel` steps. -/
def runFor : Nat → Nat → State → RunEnd
  | _, 0, s => .elapsed s
  | 0, _ + 1, s => .unfinished s
  | fuel + 1, budget + 1, s =>
    match step s with
    | .next t => runFor fuel (budget + 1 - t.cost.getD 0) t
    | .fault r => .stopped s r
    | .refused r => .refused s r

/-- The T-states of one frame (R1043). -/
def frameTStates : Nat := 70224

/-- Steps after which a frame has elapsed or the machine has stopped, whatever happens: every step but a wake returns at least 4, and
no two wakes follow each other (R1040 to R1042), so every two steps return at least 4, but for a step that raises a fault, which one
more step finds. -/
def frameSteps : Nat := 35113

/-- `run_frame()`: steps until one full frame's T-states have elapsed. DESIGN CHOICE (log 20): every call counts a whole frame from
0; the T-states by which the last step passed the frame's end are not carried to the next call. -/
def runFrame (s : State) : RunEnd := runFor frameSteps frameTStates s

/-- Step until the byte at address `ly` is no longer `line`, for at most `fuel` steps. The façade looks at what a read would give
between two steps and takes no answer of the `BUS`. DESIGN CHOICE (log 20): where the `BUS` serves `ly` as scripted, that is the next
answer, whichever read of the CPU it is meant for, so the run may end though LY has not advanced; and LY is looked at before the fault, so where
the step that raised a fault also moved that answer the call reports `elapsed`, in a state with the fault, and where that step was the
last allowed and LY has not changed, `unfinished`. -/
def runWhileLine (ly : Word) (line : Byte) : Nat → State → RunEnd
  | 0, s => if s.read ly = line then .unfinished s else .elapsed s
  | fuel + 1, s =>
    if s.read ly = line then
      match step s with
      | .next t => runWhileLine ly line fuel t
      | .fault r => .stopped s r
      | .refused r => .refused s r
    else .elapsed s

/-- `run_scanline()`: steps until LY advances. LY is the PPU's (R5) and the spec gives it no address, so the address is an argument,
and so is the number of steps, since the environment may never move LY. DESIGN CHOICE (log 20): any change of LY is its advance, the
last line's return to 0 among them. -/
def runScanline (ly : Word) (fuel : Nat) (s : State) : RunEnd := runWhileLine ly (s.read ly) fuel s

/-- `load_bootrom(bytes, enabled)`: the 256-byte image, and whether it overlays (R222, R1004). DESIGN CHOICE (log 21): the call
changes the image and the overlay alone, at any time: the registers and PC stay as they are, so a machine built without the boot ROM
does not move to the profile of R1002, and an overlay that had ended may be active again. -/
def State.loadBootrom (s : State) (bytes : List Byte) (enabled : Bool) : State :=
  { s with bootRom := Memory.ofBytes [] 0 (bytes.take 256), overlay := enabled }

end Sys2Proof.Machine
end

