-- ==== Sys2Proof/Machine/Footprint.lean ====
section
/-! DEFINITION. The footprint of an instruction: what it may write and what it costs, by the fields of its opcode byte and by
the cost tables, written from the rules and not from the meanings. Statements about frames and costs are made in these terms. -/

namespace Sys2Proof.Machine

/-! ### Addresses stored to -/

/-- The addresses an instruction stores to, in order, from the state its fetch leaves. An instruction that is not named
stores nothing. -/
def stores (i : Instr) (s : State) : List Word :=
  match i with
  | .ldMemBcA => [s.bc]
  | .ldMemA16Sp a => [a, a + 1]
  | .ldMemDeA => [s.de]
  | .ldMemHlIncA => [s.hl]
  | .ldMemHlDecA => [s.hl]
  | .incMemHl => [s.hl]
  | .decMemHl => [s.hl]
  | .ldMemHlN8 _ => [s.hl]
  | .ldMemHlB => [s.hl]
  | .ldMemHlC => [s.hl]
  | .ldMemHlD => [s.hl]
  | .ldMemHlE => [s.hl]
  | .ldMemHlH => [s.hl]
  | .ldMemHlL => [s.hl]
  | .ldMemHlA => [s.hl]
  | .callNzA16 _ => if s.flags.cond .nz then [s.sp - 1, s.sp - 2] else []
  | .pushBc => [s.sp - 1, s.sp - 2]
  | .rst00h => [s.sp - 1, s.sp - 2]
  | .prefixCb op => if opZ op = 6 ∧ opX op ≠ 1 then [s.hl] else []
  | .callZA16 _ => if s.flags.cond .z then [s.sp - 1, s.sp - 2] else []
  | .callA16 _ => [s.sp - 1, s.sp - 2]
  | .rst08h => [s.sp - 1, s.sp - 2]
  | .callNcA16 _ => if s.flags.cond .nc then [s.sp - 1, s.sp - 2] else []
  | .pushDe => [s.sp - 1, s.sp - 2]
  | .rst10h => [s.sp - 1, s.sp - 2]
  | .callCA16 _ => if s.flags.cond .c then [s.sp - 1, s.sp - 2] else []
  | .rst18h => [s.sp - 1, s.sp - 2]
  | .ldhMemA8A n => [highPage n]
  | .ldMemCA => [highPage s.c]
  | .pushHl => [s.sp - 1, s.sp - 2]
  | .rst20h => [s.sp - 1, s.sp - 2]
  | .ldMemA16A a => [a]
  | .rst28h => [s.sp - 1, s.sp - 2]
  | .pushAf => [s.sp - 1, s.sp - 2]
  | .rst30h => [s.sp - 1, s.sp - 2]
  | .rst38h => [s.sp - 1, s.sp - 2]
  | .rlcMemHl => [s.hl]
  | .rrcMemHl => [s.hl]
  | .rlMemHl => [s.hl]
  | .rrMemHl => [s.hl]
  | .slaMemHl => [s.hl]
  | .sraMemHl => [s.hl]
  | .swapMemHl => [s.hl]
  | .srlMemHl => [s.hl]
  | .res0MemHl => [s.hl]
  | .res1MemHl => [s.hl]
  | .res2MemHl => [s.hl]
  | .res3MemHl => [s.hl]
  | .res4MemHl => [s.hl]
  | .res5MemHl => [s.hl]
  | .res6MemHl => [s.hl]
  | .res7MemHl => [s.hl]
  | .set0MemHl => [s.hl]
  | .set1MemHl => [s.hl]
  | .set2MemHl => [s.hl]
  | .set3MemHl => [s.hl]
  | .set4MemHl => [s.hl]
  | .set5MemHl => [s.hl]
  | .set6MemHl => [s.hl]
  | .set7MemHl => [s.hl]
  | _ => []

/-- The addresses an instruction reads as operands, in order, from the state its fetch leaves. An instruction that is not named reads
none. -/
def loads (i : Instr) (s : State) : List Word :=
  match i with
  | .ldAMemBc => [s.bc]
  | .ldAMemDe => [s.de]
  | .ldAMemHlInc => [s.hl]
  | .incMemHl => [s.hl]
  | .decMemHl => [s.hl]
  | .ldAMemHlDec => [s.hl]
  | .ldBMemHl => [s.hl]
  | .ldCMemHl => [s.hl]
  | .ldDMemHl => [s.hl]
  | .ldEMemHl => [s.hl]
  | .ldHMemHl => [s.hl]
  | .ldLMemHl => [s.hl]
  | .ldAMemHl => [s.hl]
  | .addAMemHl => [s.hl]
  | .adcAMemHl => [s.hl]
  | .subMemHl => [s.hl]
  | .sbcAMemHl => [s.hl]
  | .andMemHl => [s.hl]
  | .xorMemHl => [s.hl]
  | .orMemHl => [s.hl]
  | .cpMemHl => [s.hl]
  | .retNz => if s.flags.cond .nz then [s.sp, s.sp + 1] else []
  | .popBc => [s.sp, s.sp + 1]
  | .retZ => if s.flags.cond .z then [s.sp, s.sp + 1] else []
  | .ret => [s.sp, s.sp + 1]
  | .prefixCb op => if opZ op = 6 then [s.hl] else []
  | .retNc => if s.flags.cond .nc then [s.sp, s.sp + 1] else []
  | .popDe => [s.sp, s.sp + 1]
  | .retC => if s.flags.cond .c then [s.sp, s.sp + 1] else []
  | .reti => [s.sp, s.sp + 1]
  | .popHl => [s.sp, s.sp + 1]
  | .ldhAMemA8 n => [highPage n]
  | .popAf => [s.sp, s.sp + 1]
  | .ldAMemC => [highPage s.c]
  | .ldAMemA16 a => [a]
  | .rlcMemHl => [s.hl]
  | .rrcMemHl => [s.hl]
  | .rlMemHl => [s.hl]
  | .rrMemHl => [s.hl]
  | .slaMemHl => [s.hl]
  | .sraMemHl => [s.hl]
  | .swapMemHl => [s.hl]
  | .srlMemHl => [s.hl]
  | .bit0MemHl => [s.hl]
  | .bit1MemHl => [s.hl]
  | .bit2MemHl => [s.hl]
  | .bit3MemHl => [s.hl]
  | .bit4MemHl => [s.hl]
  | .bit5MemHl => [s.hl]
  | .bit6MemHl => [s.hl]
  | .bit7MemHl => [s.hl]
  | .res0MemHl => [s.hl]
  | .res1MemHl => [s.hl]
  | .res2MemHl => [s.hl]
  | .res3MemHl => [s.hl]
  | .res4MemHl => [s.hl]
  | .res5MemHl => [s.hl]
  | .res6MemHl => [s.hl]
  | .res7MemHl => [s.hl]
  | .set0MemHl => [s.hl]
  | .set1MemHl => [s.hl]
  | .set2MemHl => [s.hl]
  | .set3MemHl => [s.hl]
  | .set4MemHl => [s.hl]
  | .set5MemHl => [s.hl]
  | .set6MemHl => [s.hl]
  | .set7MemHl => [s.hl]
  | _ => []

/-! ### Registers -/

/-- The 8-bit registers of a pair of the SP table. -/
def PairSp_regs : PairSp → List Reg8
  | .bc => [.b, .c]
  | .de => [.d, .e]
  | .hl => [.h, .l]
  | .sp => []

/-- The 8-bit registers, F apart, of a pair of the AF table. -/
def PairAf_regs : PairAf → List Reg8
  | .bc => [.b, .c]
  | .de => [.d, .e]
  | .hl => [.h, .l]
  | .af => [.a]

/-- Destinations of the unprefixed opcodes with x = 0. -/
def destsX0 (op : Byte) : List Reg8 :=
  match opZ op with
  | 0 => []
  | 1 => if opQ op = 0 then PairSp_regs (PairSp.ofCode (opP op)) else [.h, .l]
  | 2 => (if opQ op = 1 then [.a] else []) ++ (if opP op = 2 ∨ opP op = 3 then [.h, .l] else [])
  | 3 => PairSp_regs (PairSp.ofCode (opP op))
  | 4 => (Reg8.ofCode (opY op)).toList
  | 5 => (Reg8.ofCode (opY op)).toList
  | 6 => (Reg8.ofCode (opY op)).toList
  | 7 => if opY op = 6 ∨ opY op = 7 then [] else [.a]

/-- Destinations of the unprefixed opcodes with x = 3. -/
def destsX3 (op : Byte) : List Reg8 :=
  match opZ op with
  | 0 => if opY op = 6 then [.a] else if opY op = 7 then [.h, .l] else []
  | 1 => if opQ op = 0 then PairAf_regs (PairAf.ofCode (opP op)) else []
  | 2 => if opY op = 6 ∨ opY op = 7 then [.a] else []
  | 6 => if opY op = 7 then [] else [.a]
  | _ => []

/-- Destinations after 0xCB: BIT has none. -/
def destsCb (op : Byte) : List Reg8 := if opX op = 1 then [] else (Reg8.ofCode (opZ op)).toList

/-- The 8-bit registers, F apart, that the instruction of these bytes may write. -/
def destRegs : List Byte → List Reg8
  | [] => []
  | op :: rest =>
    if op = 0xCB then destsCb (rest.headD 0)
    else match opX op with
      | 0 => destsX0 op
      | 1 => if op = 0x76 then [] else (Reg8.ofCode (opY op)).toList
      | 2 => if opY op = 7 then [] else [.a]
      | 3 => destsX3 op

/-- Whether the instruction of these bytes may write SP: LD SP,n16, LD SP,HL, INC SP, DEC SP, ADD SP,e8, PUSH, POP, CALL, RET,
RETI and RST (spec/10_state.md §7). -/
def writesSp : List Byte → Bool
  | [] => false
  | op :: _ => op ∈ ([0x31, 0x33, 0x3B, 0xF9, 0xE8, 0xC1, 0xD1, 0xE1, 0xF1, 0xC5, 0xD5, 0xE5, 0xF5] ++
      [0xCD, 0xC4, 0xCC, 0xD4, 0xDC, 0xC9, 0xC0, 0xC8, 0xD0, 0xD8, 0xD9] ++
      [0xC7, 0xCF, 0xD7, 0xDF, 0xE7, 0xEF, 0xF7, 0xFF] : List Byte)

/-! ### Flags -/

/-- The bits of F the instruction of these bytes may write: Z 0x80, N 0x40, H 0x20, C 0x10. -/
def flagMask : List Byte → Byte
  | [] => 0
  | op :: rest =>
    if op = 0xCB then (match opX (rest.headD 0) with | 0 => 0xF0 | 1 => 0xE0 | _ => 0x00)
    else match opX op, opZ op with
      | 0, 1 => if opQ op = 1 then 0x70 else 0x00
      | 0, 4 => 0xE0
      | 0, 5 => 0xE0
      | 0, 7 => match opY op with
        | 4 => 0xB0
        | 5 => 0x60
        | 6 => 0x70
        | 7 => 0x70
        | _ => 0xF0
      | 2, _ => 0xF0
      | 3, 6 => 0xF0
      | _, _ => if op = 0xF1 ∨ op = 0xE8 ∨ op = 0xF8 then 0xF0 else 0x00

/-! ### Costs (R1040, R1041) -/

/-- R1040: taken, not taken, for each unprefixed opcode. The 0xCB byte and the illegal bytes have no cost of their own, (0, 0). -/
def unprefixedCosts : List (Nat × Nat) :=
  [(4, 4), (12, 12), (8, 8), (8, 8), (4, 4), (4, 4), (8, 8), (4, 4), (20, 20), (8, 8), (8, 8), (8, 8), (4, 4), (4, 4), (8, 8), (4, 4)] ++
  [(4, 4), (12, 12), (8, 8), (8, 8), (4, 4), (4, 4), (8, 8), (4, 4), (12, 12), (8, 8), (8, 8), (8, 8), (4, 4), (4, 4), (8, 8), (4, 4)] ++
  [(12, 8), (12, 12), (8, 8), (8, 8), (4, 4), (4, 4), (8, 8), (4, 4), (12, 8), (8, 8), (8, 8), (8, 8), (4, 4), (4, 4), (8, 8), (4, 4)] ++
  [(12, 8), (12, 12), (8, 8), (8, 8), (12, 12), (12, 12), (12, 12), (4, 4), (12, 8), (8, 8), (8, 8), (8, 8), (4, 4), (4, 4), (8, 8), (4, 4)] ++
  [(4, 4), (4, 4), (4, 4), (4, 4), (4, 4), (4, 4), (8, 8), (4, 4), (4, 4), (4, 4), (4, 4), (4, 4), (4, 4), (4, 4), (8, 8), (4, 4)] ++
  [(4, 4), (4, 4), (4, 4), (4, 4), (4, 4), (4, 4), (8, 8), (4, 4), (4, 4), (4, 4), (4, 4), (4, 4), (4, 4), (4, 4), (8, 8), (4, 4)] ++
  [(4, 4), (4, 4), (4, 4), (4, 4), (4, 4), (4, 4), (8, 8), (4, 4), (4, 4), (4, 4), (4, 4), (4, 4), (4, 4), (4, 4), (8, 8), (4, 4)] ++
  [(8, 8), (8, 8), (8, 8), (8, 8), (8, 8), (8, 8), (4, 4), (8, 8), (4, 4), (4, 4), (4, 4), (4, 4), (4, 4), (4, 4), (8, 8), (4, 4)] ++
  [(4, 4), (4, 4), (4, 4), (4, 4), (4, 4), (4, 4), (8, 8), (4, 4), (4, 4), (4, 4), (4, 4), (4, 4), (4, 4), (4, 4), (8, 8), (4, 4)] ++
  [(4, 4), (4, 4), (4, 4), (4, 4), (4, 4), (4, 4), (8, 8), (4, 4), (4, 4), (4, 4), (4, 4), (4, 4), (4, 4), (4, 4), (8, 8), (4, 4)] ++
  [(4, 4), (4, 4), (4, 4), (4, 4), (4, 4), (4, 4), (8, 8), (4, 4), (4, 4), (4, 4), (4, 4), (4, 4), (4, 4), (4, 4), (8, 8), (4, 4)] ++
  [(4, 4), (4, 4), (4, 4), (4, 4), (4, 4), (4, 4), (8, 8), (4, 4), (4, 4), (4, 4), (4, 4), (4, 4), (4, 4), (4, 4), (8, 8), (4, 4)] ++
  [(20, 8), (12, 12), (16, 12), (16, 16), (24, 12), (16, 16), (8, 8), (16, 16), (20, 8), (16, 16), (16, 12), (0, 0), (24, 12), (24, 24), (8, 8), (16, 16)] ++
  [(20, 8), (12, 12), (16, 12), (0, 0), (24, 12), (16, 16), (8, 8), (16, 16), (20, 8), (16, 16), (16, 12), (0, 0), (24, 12), (0, 0), (8, 8), (16, 16)] ++
  [(12, 12), (12, 12), (8, 8), (0, 0), (0, 0), (16, 16), (8, 8), (16, 16), (16, 16), (4, 4), (16, 16), (0, 0), (0, 0), (0, 0), (8, 8), (16, 16)] ++
  [(12, 12), (12, 12), (8, 8), (4, 4), (0, 0), (16, 16), (8, 8), (16, 16), (12, 12), (8, 8), (16, 16), (4, 4), (0, 0), (0, 0), (8, 8), (16, 16)]

/-- R1041: the cost of each byte after 0xCB, the prefix included. -/
def cbCosts : List Nat :=
  [8, 8, 8, 8, 8, 8, 16, 8, 8, 8, 8, 8, 8, 8, 16, 8] ++
  [8, 8, 8, 8, 8, 8, 16, 8, 8, 8, 8, 8, 8, 8, 16, 8] ++
  [8, 8, 8, 8, 8, 8, 16, 8, 8, 8, 8, 8, 8, 8, 16, 8] ++
  [8, 8, 8, 8, 8, 8, 16, 8, 8, 8, 8, 8, 8, 8, 16, 8] ++
  [8, 8, 8, 8, 8, 8, 12, 8, 8, 8, 8, 8, 8, 8, 12, 8] ++
  [8, 8, 8, 8, 8, 8, 12, 8, 8, 8, 8, 8, 8, 8, 12, 8] ++
  [8, 8, 8, 8, 8, 8, 12, 8, 8, 8, 8, 8, 8, 8, 12, 8] ++
  [8, 8, 8, 8, 8, 8, 12, 8, 8, 8, 8, 8, 8, 8, 12, 8] ++
  [8, 8, 8, 8, 8, 8, 16, 8, 8, 8, 8, 8, 8, 8, 16, 8] ++
  [8, 8, 8, 8, 8, 8, 16, 8, 8, 8, 8, 8, 8, 8, 16, 8] ++
  [8, 8, 8, 8, 8, 8, 16, 8, 8, 8, 8, 8, 8, 8, 16, 8] ++
  [8, 8, 8, 8, 8, 8, 16, 8, 8, 8, 8, 8, 8, 8, 16, 8] ++
  [8, 8, 8, 8, 8, 8, 16, 8, 8, 8, 8, 8, 8, 8, 16, 8] ++
  [8, 8, 8, 8, 8, 8, 16, 8, 8, 8, 8, 8, 8, 8, 16, 8] ++
  [8, 8, 8, 8, 8, 8, 16, 8, 8, 8, 8, 8, 8, 8, 16, 8] ++
  [8, 8, 8, 8, 8, 8, 16, 8, 8, 8, 8, 8, 8, 8, 16, 8]

/-- Whether the conditional branch with this opcode is taken: `cc` is `y[1:0]` (R306), JR cc included, since y − 4 and y have
the same low bits. -/
def branchTaken (op : Byte) (fl : Flags) : Bool :=
  match (op.extractLsb' 3 2).toFin with
  | 0 => !fl.z
  | 1 => fl.z
  | 2 => !fl.c
  | 3 => fl.c

/-- The T-states the tables give the instruction of these bytes, with the flags from before it. -/
def tableCost (fl : Flags) : List Byte → Nat
  | [] => 0
  | op :: rest =>
    if op = 0xCB then cbCosts.getD (rest.headD 0).toNat 0
    else
      let c := unprefixedCosts.getD op.toNat (0, 0)
      if branchTaken op fl then c.1 else c.2

end Sys2Proof.Machine
end

