-- ==== Sys2Proof/Safety.lean ====
section
/-! DEFINITION. The invariant of the machine, and what counts as a safe run. -/

namespace Sys2Proof.Machine

/-- Memory in canonical form, listing only addresses whose byte it holds. -/
def State.memOk (s : State) : Bool :=
  s.mem.wf && s.mem.all fun c => memBacked s.params (BitVec.ofNat 16 c.1)

/-- The boot image in canonical form, within its 256 bytes (R222). -/
def State.bootOk (s : State) : Bool := s.bootRom.wf && s.bootRom.all fun c => decide (c.1 < 256)

/-- What holds of the machine between two steps. -/
structure State.Inv (s : State) : Prop where
  /-- Memory keeps its canonical form. -/
  memOk : s.memOk = true
  /-- So does the boot image. -/
  bootOk : s.bootOk = true
  /-- F[3:0] is 0 (R105). -/
  lowNibble : s.f &&& 0x0F = 0
  /-- The bookkeeping has brought `ei_delay` below 2 (R805, R905). -/
  eiDelay : s.eiDelay ≠ 2
  /-- An enable is pending only while IME is 0 (R805, R112). -/
  eiPending : s.eiDelay = 0 ∨ s.ime = false
  /-- DIV's sub-cycle counter stays below 256 (R951). -/
  divPhase : s.timer.divPhase < 256
  /-- TIMA's prescaler phase stays below its period (R951). -/
  timaPhase : s.timer.timaPhase < Timer.period s.timer.tac

/-- The machine has not stopped (R113, R940). A stopped state is never a final state of a claim (R940). -/
def State.running (s : State) : Prop := s.fault = none

/-- `k` steps from `s` all complete, and lead to `t`. -/
inductive Run : Nat → State → State → Prop where
  | refl (s : State) : Run 0 s s
  | step {k : Nat} {s t u : State} : step s = .next t → t.running → Run k t u → Run (k + 1) s u

/-- No run from `s` stops in a fault: every state reached is running and has a next one that is. -/
def State.Safe (s : State) : Prop := ∀ k t, Run k s t → ∃ u, step t = .next u ∧ u.running

end Sys2Proof.Machine
end

