-- ==== Sys2Proof/Certificates/Slice0/Obligations.lean ====
section
/-! DEFINITION. The statements for the provers, with the spec's own functions they are made of: codes, pairs, flag bytes, sums with
their carries. These are written from the rules in a form of their own, not from the meanings. -/

namespace Sys2Proof.Spec

open Sys2Proof.Machine

/-! ### Codes (spec/30_encoding.md R303, R304, R306, R307, R312) -/

/-- R303. -/
def regCode : Reg8 → Byte
  | .b => 0 | .c => 1 | .d => 2 | .e => 3 | .h => 4 | .l => 5 | .a => 7

/-- R304, the SP table. -/
def pairSpCode : PairSp → Byte
  | .bc => 0 | .de => 1 | .hl => 2 | .sp => 3

/-- R304, the AF table. -/
def pairAfCode : PairAf → Byte
  | .bc => 0 | .de => 1 | .hl => 2 | .af => 3

/-- R306. -/
def condCode : Cond → Byte
  | .nz => 0 | .z => 1 | .nc => 2 | .c => 3

/-- R307. -/
def aluCode : AluOp → Byte
  | .add => 0 | .adc => 1 | .sub => 2 | .sbc => 3 | .and => 4 | .xor => 5 | .or => 6 | .cp => 7

/-- R312, R660. -/
def rotCode : RotOp → Byte
  | .rlc => 0 | .rrc => 1 | .rl => 2 | .rr => 3 | .sla => 4 | .sra => 5 | .swap => 6 | .srl => 7

/-- A bit number as a byte. -/
def bitCode (b : Fin 8) : Byte := BitVec.ofNat 8 b.val

/-- R313. -/
def illegalBytes : List Byte := [0xD3, 0xDB, 0xDD, 0xE3, 0xE4, 0xEB, 0xEC, 0xED, 0xF4, 0xFC, 0xFD]

/-- The length table of R311, with 2 for the prefix and 1 for an illegal byte. -/
def lengths : List Nat :=
  [1, 3, 1, 1, 1, 1, 2, 1, 3, 1, 1, 1, 1, 1, 2, 1] ++ [2, 3, 1, 1, 1, 1, 2, 1, 2, 1, 1, 1, 1, 1, 2, 1] ++
  [2, 3, 1, 1, 1, 1, 2, 1, 2, 1, 1, 1, 1, 1, 2, 1] ++ [2, 3, 1, 1, 1, 1, 2, 1, 2, 1, 1, 1, 1, 1, 2, 1] ++
  List.replicate 128 1 ++
  [1, 1, 3, 3, 3, 1, 2, 1, 1, 1, 3, 2, 3, 3, 2, 1] ++ [1, 1, 3, 1, 3, 1, 2, 1, 1, 1, 3, 1, 3, 1, 2, 1] ++
  [2, 1, 1, 1, 1, 1, 2, 1, 2, 1, 3, 1, 1, 1, 2, 1] ++ [2, 1, 1, 1, 1, 1, 2, 1, 2, 1, 3, 1, 1, 1, 2, 1]

/-! ### Words, pairs and flags (spec/10_state.md R101, R104, R105) -/

def high (w : Word) : Byte := w.extractLsb' 8 8
def low (w : Word) : Byte := w.extractLsb' 0 8

/-- The value of a pair of the SP table. -/
def pairSp (s : State) : PairSp → Word
  | .bc => s.b ++ s.c
  | .de => s.d ++ s.e
  | .hl => s.h ++ s.l
  | .sp => s.sp

/-- The value of a pair of the AF table; the low nibble of F reads as 0. -/
def pairAf (s : State) : PairAf → Word
  | .bc => s.b ++ s.c
  | .de => s.d ++ s.e
  | .hl => s.h ++ s.l
  | .af => s.a ++ (s.f &&& 0xF0)

/-- A write of a pair of the SP table. -/
def setPairSp (s : State) (w : Word) : PairSp → State
  | .bc => { s with b := high w, c := low w }
  | .de => { s with d := high w, e := low w }
  | .hl => { s with h := high w, l := low w }
  | .sp => { s with sp := w }

/-- A write of a pair of the AF table. -/
def setPairAf (s : State) (w : Word) : PairAf → State
  | .bc => { s with b := high w, c := low w }
  | .de => { s with d := high w, e := low w }
  | .hl => { s with h := high w, l := low w }
  | .af => { s with a := high w, f := low w &&& 0xF0 }

/-- The address in HL. -/
def hl (s : State) : Word := s.h ++ s.l

def zf (s : State) : Bool := s.f.getLsbD 7
def nf (s : State) : Bool := s.f.getLsbD 6
def hf (s : State) : Bool := s.f.getLsbD 5
def cf (s : State) : Bool := s.f.getLsbD 4

/-- A byte of F from its four flags. -/
def flagByte (z n h c : Bool) : Byte :=
  (BitVec.ofBool z ++ BitVec.ofBool n ++ BitVec.ofBool h ++ BitVec.ofBool c ++ 0#4 : BitVec 8)

/-- `cond(cc)` (R306). -/
def holds (s : State) : Cond → Bool
  | .nz => zf s == false
  | .z  => zf s == true
  | .nc => cf s == false
  | .c  => cf s == true

/-! ### Arithmetic (spec/42_alu8.md R500 to R502, spec/43_alu16.md R602, R603) -/

/-- The carry out of the low `k` bits of a sum of two words and a carry-in. -/
def carryAt {w : Nat} (k : Nat) (x y : BitVec w) (cin : Bool) : Bool :=
  decide (x.toNat % 2 ^ k + y.toNat % 2 ^ k + cin.toNat ≥ 2 ^ k)

/-- The borrow into bit `k` of a difference with a borrow-in. -/
def borrowAt {w : Nat} (k : Nat) (x y : BitVec w) (bin : Bool) : Bool :=
  decide (((x.toNat % 2 ^ k : Nat) : Int) - ((y.toNat % 2 ^ k : Nat) : Int) - (bin.toNat : Int) < 0)

/-- What A becomes: CP discards the result (R531). -/
def aluA (op : AluOp) (a b : Byte) (c : Bool) : Byte :=
  match op with
  | .add => a + b
  | .adc => a + b + (if c then 1 else 0)
  | .sub => a - b
  | .sbc => a - b - (if c then 1 else 0)
  | .and => a &&& b
  | .xor => a ^^^ b
  | .or  => a ||| b
  | .cp  => a

/-- What F becomes. -/
def aluF (op : AluOp) (a b : Byte) (c : Bool) : Byte :=
  match op with
  | .add => flagByte (a + b == 0) false (carryAt 4 a b false) (carryAt 8 a b false)
  | .adc => flagByte (a + b + (if c then 1 else 0) == 0) false (carryAt 4 a b c) (carryAt 8 a b c)
  | .sub => flagByte (a == b) true (borrowAt 4 a b false) (borrowAt 8 a b false)
  | .sbc => flagByte (a - b - (if c then 1 else 0) == 0) true (borrowAt 4 a b c) (borrowAt 8 a b c)
  | .and => flagByte (a &&& b == 0) false true false
  | .xor => flagByte (a == b) false false false
  | .or  => flagByte (a ||| b == 0) false false false
  | .cp  => flagByte (a == b) true (borrowAt 4 a b false) (borrowAt 8 a b false)

/-- The state after an operation on A with an operand byte. -/
def aluState (op : AluOp) (b : Byte) (cost : Nat) (s : State) : State :=
  { s with a := aluA op s.a b (cf s), f := aluF op s.a b (cf s), cost := some cost }

/-- R550, the correction and the carry out. -/
def daaFix (a : Byte) (n h c : Bool) : Byte × Bool :=
  if n = false then
    let t : Byte × Bool := if c = true ∨ a.toNat > 0x99 then (0x60, true) else (0, c)
    if h = true ∨ a.toNat % 16 > 9 then (t.1 ||| 0x06, t.2) else t
  else
    ((if c = true then 0x60 else 0) ||| (if h = true then 0x06 else 0), c)

/-- R550, the result. -/
def daaA (a : Byte) (n h c : Bool) : Byte := if n = false then a + (daaFix a n h c).1 else a - (daaFix a n h c).1

/-- R603, the result. -/
def spPlus (sp : Word) (e : Byte) : Word := BitVec.ofInt 16 (sp.toNat + e.toInt)

/-- R603, the flags: those of an unsigned addition to the low byte. -/
def spPlusF (sp : Word) (e : Byte) : Byte := flagByte false false (carryAt 4 (low sp) e false) (carryAt 8 (low sp) e false)

/-! ### Rotates and shifts (spec/44_rotate_shift_bit.md R660) -/

/-- The result. -/
def rotV (k : RotOp) (v : Byte) (c : Bool) : Byte :=
  match k with
  | .rlc  => v.rotateLeft 1
  | .rrc  => v.rotateRight 1
  | .rl   => BitVec.ofNat 8 (v.toNat * 2 + c.toNat)
  | .rr   => BitVec.ofNat 8 ((v.toNat + 256 * c.toNat) / 2)
  | .sla  => BitVec.ofNat 8 (v.toNat * 2)
  | .sra  => v.sshiftRight 1
  | .swap => v.rotateLeft 4
  | .srl  => BitVec.ofNat 8 (v.toNat / 2)

/-- The bit shifted out. -/
def rotC (k : RotOp) (v : Byte) : Bool :=
  match k with
  | .rlc | .rl | .sla => decide (v.toNat ≥ 128)
  | .rrc | .rr | .sra | .srl => decide (v.toNat % 2 = 1)
  | .swap => false

/-- `v & ~(1 << b)` as arithmetic (R682). -/
def without (b : Fin 8) (v : Byte) : Byte := if v.getLsbD b then v - BitVec.twoPow 8 b else v

/-- `v | (1 << b)` as arithmetic (R684). -/
def withBit (b : Fin 8) (v : Byte) : Byte := if v.getLsbD b then v else v + BitVec.twoPow 8 b

/-! ### The stack (spec/20_memory.md R210, R211) -/

/-- `push16(v)`. -/
def pushed (s : State) (v : Word) : State :=
  let s1 := ({ s with sp := s.sp - 1 } : State).write (s.sp - 1) (high v)
  ({ s1 with sp := s1.sp - 1 } : State).write (s1.sp - 1) (low v)

/-- The value `pop16()` returns: the second byte is read after the first read has had its effect (R206). -/
def top (s : State) : Word := (s.afterRead s.sp).read (s.sp + 1) ++ s.read s.sp

/-- The state `pop16()` leaves. -/
def popped (s : State) : State := { (s.afterRead s.sp).afterRead (s.sp + 1) with sp := s.sp + 2 }

/-- `push16(PC); PC <- a`. -/
def called (s : State) (a : Word) : State := { pushed s s.pc with pc := a }

/-- `PC <- pop16()`. -/
def returned (s : State) : State := { popped s with pc := top s }

/-! ### Fetching (spec/30_encoding.md R308) -/

/-- `fetch8()`: the byte at PC, and the state in which it has been read and PC has moved past it. -/
def fetch8 (s : State) : Byte × State := (s.read s.pc, { s.afterRead s.pc with pc := s.pc + 1 })

/-- `fetch8()` `n` times. -/
def fetch : Nat → State → List Byte × State
  | 0, s => ([], s)
  | n + 1, s => ((fetch8 s).1 :: (fetch n (fetch8 s).2).1, (fetch n (fetch8 s).2).2)

/-! ### Interrupts (spec/60_exceptions.md R912, R913) -/

/-- The state after taking the interrupt of source `k`, before the devices see its cost. -/
def taken (k : Nat) (s : State) : State :=
  let s1 := { s with iflag := s.iflag &&& ~~~(BitVec.twoPow 8 k), ime := false, eiDelay := 0, halted := false }
  { pushed s1 s.pc with pc := BitVec.ofNat 16 (0x40 + 8 * k), cost := some 20 }

/-- `pending` (spec/10_state.md R122). -/
def pending (s : State) : Byte := s.ie &&& s.iflag &&& 0x1F

/-- Whether a step from this state executes an instruction (R900). -/
def executes (s : State) : Prop := s.fault = none ∧ s.halted = false ∧ (s.ime = false ∨ pending s = 0)

/-! ### Packed BCD -/

/-- The packed BCD byte of a number below 100. -/
def bcd (n : Nat) : Byte := BitVec.ofNat 8 (n / 10 * 16 + n % 10)

/-! ### Addresses whose byte is plain memory -/

/-- Whether the address is one of RAM's. That video RAM, OAM and cartridge RAM, which belong to the PPU and the cartridge (R220), keep
what is stored until their device changes it between steps is the model's choice (log 8, log 6): R207 gives no such promise. -/
def plain (p : Params) (a : Word) : Prop :=
  owner p a = .vram ∨ owner p a = .extRam ∨ owner p a = .workRam ∨ owner p a = .oam ∨ owner p a = .highRam

/-! ### Any `BUS` (spec/20_memory.md R200, R207) -/

/-- One access of the CPU. -/
inductive Access where
  | read (x : Word)
  | write (x : Word) (v : Byte)
deriving DecidableEq, Repr

/-- The address of an access. -/
def Access.addr : Access → Word
  | .read x => x
  | .write x _ => x

/-- What a `BUS` in state `b` answers to the reads among the accesses; every access may change its state. -/
def busReads {β : Type} (rd : β → Word → Byte × β) (wr : β → Word → Byte → β) : β → List Access → List Byte
  | _, [] => []
  | b, .read x :: rest => (rd b x).1 :: busReads rd wr (rd b x).2 rest
  | b, .write x v :: rest => busReads rd wr (wr b x v) rest

/-- What the machine's reads among the accesses give, and the state they leave. -/
def cpuReads : State → List Access → List Byte × State
  | s, [] => ([], s)
  | s, .read x :: rest => (s.read x :: (cpuReads (s.afterRead x) rest).1, (cpuReads (s.afterRead x) rest).2)
  | s, .write x v :: rest => cpuReads (s.write x v) rest

/-! ### Steps and the T-states they return (spec/60_exceptions.md R956) -/

/-- Steps from `s` to `t` that return `n` T-states in all. -/
inductive Ran : Nat → State → State → Prop where
  | refl (s : State) : Ran 0 s s
  | step {n : Nat} {s t u : State} : Machine.step s = .next t → Ran n t u → Ran (t.cost.getD 0 + n) s u

end Sys2Proof.Spec

open Sys2Proof Sys2Proof.Machine

/-! ## Encoding and decoding -/

/-- Words written out from the encodings of 30_encoding.md to 46_cpu_control.md decode to the instructions they stand for, one
or more a family; a byte past the instruction is left over. -/
def Obligations.WordsOfTheSpecDecode : Prop :=
  decode [0x53] = .ok .ldDE [] ∧                                -- LD D,E = 01 010 011 (R400)
  decode [0x36, 0x7E, 0x99] = .ok (.ldMemHlN8 0x7E) [0x99] ∧    -- LD (HL),0x7E = 36 7E (R404)
  decode [0xEA, 0xFF, 0xFE] = .ok (.ldMemA16A 0xFEFF) [] ∧      -- LD (0xFEFF),A = EA FF FE (R410, R305)
  decode [0x31, 0xFE, 0xFF] = .ok (.ldSpN16 0xFFFE) [] ∧        -- LD SP,0xFFFE = 31 FE FF (R450)
  decode [0xE5] = .ok .pushHl [] ∧                              -- PUSH HL = 11 10 0101 (R453)
  decode [0x8B] = .ok .adcAE [] ∧                               -- ADC A,E = 10 001 011 (R513)
  decode [0xFE, 0x3C] = .ok (.cpN8 0x3C) [] ∧                   -- CP 0x3C = FE 3C (R533)
  decode [0x34] = .ok .incMemHl [] ∧                            -- INC (HL) = 34 (R541)
  decode [0x39] = .ok .addHlSp [] ∧                             -- ADD HL,SP = 00 11 1001 (R602)
  decode [0xCB, 0x2E] = .ok .sraMemHl [] ∧                      -- SRA (HL) = CB 2E (R672)
  decode [0xCB, 0x7C] = .ok .bit7H [] ∧                         -- BIT 7,H = CB 01 111 100 (R680)
  decode [0xCB, 0xCB] = .ok .set1E [] ∧                         -- SET 1,E = CB CB (R684, R316)
  decode [0x20, 0xFB] = .ok (.jrNzE8 0xFB) [] ∧                 -- JR NZ,0xFB = 20 FB (R754)
  decode [0xD4, 0x34, 0x12] = .ok (.callNcA16 0x1234) [] ∧      -- CALL NC,0x1234 = D4 34 12 (R756)
  decode [0xDF] = .ok .rst18h [] ∧                              -- RST 18H = 11 011 111 (R761)
  decode [0x76] = .ok .halt [] ∧                                -- HALT = 76 (R801)
  decode [0xED] = .ok .illegalED []                             -- an illegal byte (R806)

/-- R308, R309: the decoder reads back every instruction the encoder writes, with every operand at every value, and leaves
the bytes after it. `wellFormed` shuts out the table's row PREFIX_CB alone, whose bytes are those of the row it selects (log 14). -/
def Obligations.DecodeReadsBackEncode : Prop :=
  ∀ i : Instr, i.wellFormed = true → ∀ rest : List Byte, decode (encode i ++ rest) = .ok i rest

/-- Any three bytes hold an instruction in canonical form, and the encoder writes back exactly the bytes it was read from (R308, R309):
1, 2 or 3 of them, by the first byte alone as the length table says (R311), and 2 after the prefix (R316). That the decoder never gives
the table's row PREFIX_CB, which `wellFormed` shuts out, is the model's choice (log 14). -/
def Obligations.EncodeWritesBackDecode : Prop :=
  (∀ op b1 b2 : Byte, (decodeBytes op b1 b2).wellFormed = true ∧
    encode (decodeBytes op b1 b2) = [op, b1, b2].take (Spec.lengths.getD op.toNat 0)) ∧
  (∀ op : Byte, 1 ≤ Spec.lengths.getD op.toNat 0 ∧ Spec.lengths.getD op.toNat 0 ≤ 3) ∧ Spec.lengths.getD 0xCB 0 = 2

/-- R309: the opcode byte, or the byte after 0xCB, alone selects the instruction: other bytes never change which constructor it is. -/
def Obligations.OpcodeByteSelectsTheInstruction : Prop :=
  (∀ op b1 b2 c1 c2 : Byte, op ≠ 0xCB → (decodeBytes op b1 b2).ctorIdx = (decodeBytes op c1 c2).ctorIdx) ∧
  (∀ cb b2 c2 : Byte, decodeBytes 0xCB cb b2 = decodeBytes 0xCB cb c2)

/-- R313, R806: executing one of the 11 illegal bytes raises `IllegalOpcode` with that byte, puts PC back at it and changes
nothing else (`s.pc` is the address after the byte, R308); it returns no cost (log 12, 13). No other byte raises `IllegalOpcode`. -/
def Obligations.IllegalBytesRaiseIllegalOpcode : Prop :=
  (∀ (op : Byte), op ∈ Spec.illegalBytes → ∀ (b1 b2 : Byte) (s : State),
    exec (decodeBytes op b1 b2) s = .next { s with fault := some (.illegalOpcode op), pc := s.pc - 1, cost := none }) ∧
  (∀ (op b1 b2 : Byte) (s t : State) (r : Byte), s.fault = none → exec (decodeBytes op b1 b2) s = .next t →
    t.fault = some (.illegalOpcode r) → op ∈ Spec.illegalBytes ∧ r = op)

/-- R802: the prefix and the byte after it are one instruction, the one the byte selects; every byte is defined, no exception is
raised, and the cost, prefix included, is 8, 12 or 16. -/
def Obligations.PrefixRunsTheSelectedRow : Prop :=
  ∀ (cb b2 : Byte) (s : State), encode (.prefixCb cb) = [0xCB, cb] ∧
    exec (.prefixCb cb) s = exec (decodeBytes 0xCB cb b2) s ∧
    ∃ t, exec (.prefixCb cb) s = .next t ∧ t.fault = s.fault ∧ (t.cost = some 8 ∨ t.cost = some 12 ∨ t.cost = some 16)

/-! ## The step -/

/-- R904, R905, R907, R308: when the bytes that `fetch8()` gives from PC on decode to `i`, none left over, a step that executes is
`exec i` on the state those fetches leave; then the bookkeeping of R905 and the devices' turn. Where `exec i` raised a fault no step
completes, and that is the next state. That STOP's second byte is read under `STOP_MODE = fault` too is the model's choice (log 23). -/
def Obligations.StepRunsTheDecodedInstruction : Prop :=
  ∀ (s t : State) (i : Instr) (k : Nat), Spec.executes s → decode (Spec.fetch k s).1 = .ok i [] →
    exec i (Spec.fetch k s).2 = .next t →
    (t.fault = none →
      step s = .next (State.elapse { t with eiDelay := if t.eiDelay = 2 then 1 else 0, ime := t.ime || decide (t.eiDelay = 1) })) ∧
    (t.fault ≠ none → step s = .next t)

/-- R906, R940, R941, R922, R113: a step from a state with a fault does not exist; a step that raises one writes the reason, PC staying
at the opcode, and nothing else but what reading the instruction's bytes changed of the `BUS` (R200); and only an illegal byte, or 0x10
under STOP_MODE = fault, raises one. That STOP's second byte is among those read is the model's choice (log 23). -/
def Obligations.FaultsStopTheMachine : Prop :=
  (∀ (s : State) (r : FaultReason), s.fault = some r → step s = .fault (.stopped r)) ∧
  (∀ (s t : State) (r : FaultReason), step s = .next t → t.fault = some r →
    t = { (Spec.fetch (Spec.lengths.getD (s.read s.pc).toNat 0) s).2 with fault := some r, pc := s.pc, cost := none } ∧
    ((r = .illegalOpcode (s.read s.pc) ∧ s.read s.pc ∈ Spec.illegalBytes) ∨
     (r = .unmodelledStop ∧ s.read s.pc = 0x10 ∧ s.params.stopMode = .fault)))

/-- R910 to R914, R901: with IME = 1 and an enabled source pending, whether or not the CPU is halted, the step takes the
lowest-numbered pending source `k`, one of the five: it clears that IF bit, IME, the pending enable and the halted state, pushes PC
(which may overwrite IE: the vector stays), goes to 0x0040 + 8k and costs 20. Then the devices have their turn (R907, log 6). -/
def Obligations.InterruptIsTaken : Prop :=
  ∀ s : State, s.fault = none → s.ime = true → Spec.pending s ≠ 0 →
    ∃ k, k < 5 ∧ (Spec.pending s).getLsbD k = true ∧ (∀ j, j < k → (Spec.pending s).getLsbD j = false) ∧
      step s = .next (Spec.taken k s).elapse

/-- R902, R903: a halted machine that takes no interrupt. With IME = 0 and a source pending, the step clears `halted` at no cost and
changes nothing else of the machine; with nothing pending it changes no state and costs 4. Then the devices have their turn (R907, log 6). -/
def Obligations.HaltedWakesOrIdles : Prop :=
  ∀ s : State, s.fault = none → s.halted = true →
    (s.ime = false → Spec.pending s ≠ 0 → step s = .next (State.elapse { s with halted := false, cost := some 0 })) ∧
    (Spec.pending s = 0 → step s = .next (State.elapse { s with cost := some 4 }))

/-- R805, R905, R1020: after EI with IME = 0 and no enable pending, IME is still 0 after EI itself, so no interrupt comes between;
the next instruction executes, and after it IME = 1, unless it was DI, which leaves IME = 0 with no enable pending. -/
def Obligations.EiEnablesAfterTheNextInstruction : Prop :=
  ∀ s t u : State, Spec.executes s → s.ime = false → s.eiDelay = 0 → s.read s.pc = 0xFB → step s = .next t →
    step t = .next u → u.fault = none →
    t.ime = false ∧ t.eiDelay = 1 ∧ u.eiDelay = 0 ∧ (t.read t.pc ≠ 0xF3 → u.ime = true) ∧ (t.read t.pc = 0xF3 → u.ime = false)

/-- R1043, R1042, R806: every step that completes returns a whole number of machine cycles, at most six; only the step that raises
a fault returns none (log 13). -/
def Obligations.StepsCostWholeMachineCycles : Prop :=
  ∀ s t : State, step s = .next t →
    (t.fault = none ∧ ∃ n, t.cost = some n ∧ n % 4 = 0 ∧ n ≤ 24) ∨ (t.fault ≠ none ∧ t.cost = none)

/-- The invariant of the machine (canonical memory and boot image, F[3:0] = 0, the pending enable below 2 and only while IME = 0,
the timer's phases in range) is kept by every step, whatever the environment does. -/
def Obligations.StepKeepsTheInvariant : Prop :=
  ∀ s t : State, s.Inv → step s = .next t → t.Inv

/-- The invariant holds at `State.reset`, and after reset in either profile for every environment whose own memories and timer
are in form. -/
def Obligations.ResetMeetsTheInvariant : Prop :=
  State.reset.Inv ∧
  (∀ v : EnvReset, (State.resetNoBoot v).memOk = true → (State.resetNoBoot v).bootOk = true → v.timer.divPhase < 256 →
    v.timer.timaPhase < Timer.period v.timer.tac → (State.resetNoBoot v).Inv ∧ ∀ r, (State.resetBoot r v).Inv)

/-- R222, R907: no step turns the boot overlay on again once it is off, and no step changes the boot image or the parameters; a step
that completes uses up one event of the environment, one that raises a fault uses none (log 6). -/
def Obligations.StepsKeepTheOverlayOffAndTheParameters : Prop :=
  ∀ s t : State, step s = .next t →
    (s.overlay = false → t.overlay = false) ∧ t.bootRom = s.bootRom ∧ t.params = s.params ∧
    t.env = if t.fault = none then s.env.tail else s.env

/-! ## What every instruction keeps to -/

/-- R309, R920: every instruction completes or, for the illegal bytes and STOP, raises its fault: `exec` always answers a next state. -/
def Obligations.EveryInstructionAnswersNext : Prop :=
  ∀ (i : Instr) (s : State), ∃ t, exec i s = .next t

/-- FRAME, registers: every instruction leaves every 8-bit register but those `destRegs` names for its bytes, and SP but for the
instructions 10_state.md §7 names. -/
def Obligations.OnlyDestinationRegistersChange : Prop :=
  ∀ (i : Instr) (s t : State), exec i s = .next t →
    (∀ r : Reg8, r ∉ destRegs (encode i) → t.reg r = s.reg r) ∧ (writesSp (encode i) = false → t.sp = s.sp)

/-- FRAME, flags: every instruction leaves the flags outside its `flagMask`. -/
def Obligations.OnlyTheRulesFlagsChange : Prop :=
  ∀ (i : Instr) (s t : State), exec i s = .next t →
    t.regF &&& ~~~ flagMask (encode i) = s.regF &&& ~~~ flagMask (encode i)

/-- FRAME, memory: after an instruction every address reads as before, but the addresses it stores to (`stores`, computed from the
state its fetch leaves), what a store there reaches by a device's side effect (`storeTouches`), and the scripted addresses where an
operand was read from one (`loads`; R200, log 22). The form that stores nothing leaves memory, the latches, the overlay and the timer
whole; the form that reads no scripted address and starts no OAM copy leaves the environment's answers. -/
def Obligations.OnlyStoredBytesChange : Prop :=
  ∀ (i : Instr) (s t : State), s.memOk = true → exec i s = .next t →
    (∀ k : Word, (∀ a ∈ stores i s, storeTouches s.params a k = false) →
      (owner s.params k ≠ .scripted ∨ ∀ a ∈ loads i s, owner s.params a ≠ .scripted) → t.read k = s.read k) ∧
    (stores i s = [] → t.mem = s.mem ∧ t.ie = s.ie ∧ t.iflag = s.iflag ∧ t.overlay = s.overlay ∧ t.timer = s.timer) ∧
    ((∀ a ∈ loads i s, owner s.params a ≠ .scripted) → (∀ a ∈ stores i s, owner s.params a ≠ .dmaTrigger) →
      t.answers = s.answers ∧ t.draws = s.draws)

/-- FRAME, control state (R110 to R113): only DI and RETI write IME within the instruction; only DI, EI and RETI write the
pending enable; only HALT sets `halted`; only the illegal bytes and STOP write `fault`; none touches the parameters, the boot image
or the environment. -/
def Obligations.OnlyControlInstructionsChangeControlState : Prop :=
  ∀ (i : Instr) (s t : State), exec i s = .next t →
    (i ≠ .di → i ≠ .reti → t.ime = s.ime) ∧
    (i ≠ .di → i ≠ .reti → i ≠ .ei → t.eiDelay = s.eiDelay) ∧
    (i ≠ .halt → t.halted = s.halted) ∧
    ((∀ n, i ≠ .stop n) → (∀ op ∈ Spec.illegalBytes, encode i ≠ [op]) → t.fault = s.fault) ∧
    t.params = s.params ∧ t.bootRom = s.bootRom ∧ t.env = s.env

/-- R1040, R1041: every instruction costs what the two tables say, by whether its branch is taken; an illegal byte, and STOP under
`STOP_MODE = fault`, completes no step and returns no cost (log 13). -/
def Obligations.CostsAreTheTables : Prop :=
  ∀ (i : Instr) (s t : State), exec i s = .next t →
    t.cost = if (encode i).headD 0 ∈ Spec.illegalBytes ∨ ((encode i).headD 0 = 0x10 ∧ s.params.stopMode = .fault) then none
      else some (tableCost s.flags (encode i))

/-! ## Results: what each instruction does, with its bytes. `s` is the state its fetch leaves, PC past the instruction (R308);
everything a statement does not name stays as it was. `s.afterRead x` is `s` but for what the read of `x` changed of the `BUS` (R200). -/

/-- R400, R401: LD r,r' and LD r,n8, a register to itself among them. -/
def Obligations.LoadRegisterResult : Prop :=
  ∀ (r r' : Reg8) (n : Byte) (s : State),
    encode (.ldRegReg r r') = [0x40 + 8 * Spec.regCode r + Spec.regCode r'] ∧
    exec (.ldRegReg r r') s = .next { s.setReg r (s.reg r') with cost := some 4 } ∧
    encode (.ldRegImm r n) = [0x06 + 8 * Spec.regCode r, n] ∧
    exec (.ldRegImm r n) s = .next { s.setReg r n with cost := some 8 }

/-- R402, R403, R404: loads and stores through HL; LD H,(HL) and LD L,(HL) use the old HL, LD (HL),H and LD (HL),L store the
address's own bytes. -/
def Obligations.LoadStoreAtHlResult : Prop :=
  ∀ (r : Reg8) (n : Byte) (s : State),
    encode (.ldRegMemHl r) = [0x46 + 8 * Spec.regCode r] ∧
    exec (.ldRegMemHl r) s = .next { (s.afterRead (s.h ++ s.l)).setReg r (s.read (s.h ++ s.l)) with cost := some 8 } ∧
    encode (.ldMemHlReg r) = [0x70 + Spec.regCode r] ∧
    exec (.ldMemHlReg r) s = .next { s.write (s.h ++ s.l) (s.reg r) with cost := some 8 } ∧
    encode (.ldMemHlN8 n) = [0x36, n] ∧
    exec (.ldMemHlN8 n) s = .next { s.write (s.h ++ s.l) n with cost := some 12 }

/-- R405 to R414: the loads and stores of A through BC, DE, an absolute address and the high page; 0xFF00 + n never leaves the page. -/
def Obligations.LoadStoreAResult : Prop :=
  ∀ (x : Word) (n : Byte) (s : State),
    (encode .ldAMemBc = [0x0A] ∧ exec .ldAMemBc s = .next { s.afterRead (s.b ++ s.c) with a := s.read (s.b ++ s.c), cost := some 8 }) ∧
    (encode .ldAMemDe = [0x1A] ∧ exec .ldAMemDe s = .next { s.afterRead (s.d ++ s.e) with a := s.read (s.d ++ s.e), cost := some 8 }) ∧
    (encode .ldMemBcA = [0x02] ∧ exec .ldMemBcA s = .next { s.write (s.b ++ s.c) s.a with cost := some 8 }) ∧
    (encode .ldMemDeA = [0x12] ∧ exec .ldMemDeA s = .next { s.write (s.d ++ s.e) s.a with cost := some 8 }) ∧
    (encode (.ldAMemA16 x) = [0xFA, Spec.low x, Spec.high x] ∧
      exec (.ldAMemA16 x) s = .next { s.afterRead x with a := s.read x, cost := some 16 }) ∧
    (encode (.ldMemA16A x) = [0xEA, Spec.low x, Spec.high x] ∧
      exec (.ldMemA16A x) s = .next { s.write x s.a with cost := some 16 }) ∧
    (encode (.ldhAMemA8 n) = [0xF0, n] ∧
      exec (.ldhAMemA8 n) s = .next { s.afterRead (0xFF00 + n.setWidth 16) with a := s.read (0xFF00 + n.setWidth 16), cost := some 12 }) ∧
    (encode (.ldhMemA8A n) = [0xE0, n] ∧
      exec (.ldhMemA8A n) s = .next { s.write (0xFF00 + n.setWidth 16) s.a with cost := some 12 }) ∧
    (encode .ldAMemC = [0xF2] ∧
      exec .ldAMemC s = .next { s.afterRead (0xFF00 + s.c.setWidth 16) with a := s.read (0xFF00 + s.c.setWidth 16), cost := some 8 }) ∧
    (encode .ldMemCA = [0xE2] ∧
      exec .ldMemCA s = .next { s.write (0xFF00 + s.c.setWidth 16) s.a with cost := some 8 })

/-- R415 to R418: A stored or loaded at HL, then HL moved by one, modulo 2^16. -/
def Obligations.LoadStoreAndMoveHlResult : Prop :=
  ∀ s : State,
    (encode .ldMemHlIncA = [0x22] ∧
      exec .ldMemHlIncA s = .next { Spec.setPairSp (s.write (s.h ++ s.l) s.a) ((s.h ++ s.l) + 1) .hl with cost := some 8 }) ∧
    (encode .ldMemHlDecA = [0x32] ∧
      exec .ldMemHlDecA s = .next { Spec.setPairSp (s.write (s.h ++ s.l) s.a) ((s.h ++ s.l) - 1) .hl with cost := some 8 }) ∧
    (encode .ldAMemHlInc = [0x2A] ∧
      exec .ldAMemHlInc s = .next { Spec.setPairSp (s.afterRead (s.h ++ s.l)) ((s.h ++ s.l) + 1) .hl with
        a := s.read (s.h ++ s.l), cost := some 8 }) ∧
    (encode .ldAMemHlDec = [0x3A] ∧
      exec .ldAMemHlDec s = .next { Spec.setPairSp (s.afterRead (s.h ++ s.l)) ((s.h ++ s.l) - 1) .hl with
        a := s.read (s.h ++ s.l), cost := some 8 })

/-- R450, R451, R452: the 16-bit loads; LD (a16),SP stores the low byte first, at a16, and the high byte at a16 + 1 mod 2^16. -/
def Obligations.LoadPairResult : Prop :=
  ∀ (p : PairSp) (n : Word) (s : State),
    (encode (.ldPairImm p n) = [0x01 + 16 * Spec.pairSpCode p, Spec.low n, Spec.high n] ∧
      exec (.ldPairImm p n) s = .next { Spec.setPairSp s n p with cost := some 12 }) ∧
    (encode (.ldMemA16Sp n) = [0x08, Spec.low n, Spec.high n] ∧
      exec (.ldMemA16Sp n) s =
        .next { (s.write n (Spec.low s.sp)).write (n + 1) (Spec.high s.sp) with cost := some 20 }) ∧
    (encode .ldSpHl = [0xF9] ∧ exec .ldSpHl s = .next { s with sp := s.h ++ s.l, cost := some 8 })

/-- R453, R454, R455, R210, R211: PUSH stores the high byte first, then the low byte; POP reads the low byte at SP and the high
byte at SP + 1; POP AF discards the low nibble of F. -/
def Obligations.PushPopResult : Prop :=
  ∀ (p : PairAf) (s : State),
    encode (.pushPair p) = [0xC5 + 16 * Spec.pairAfCode p] ∧
    exec (.pushPair p) s = .next { Spec.pushed s (Spec.pairAf s p) with cost := some 16 } ∧
    encode (.popPair p) = [0xC1 + 16 * Spec.pairAfCode p] ∧
    exec (.popPair p) s = .next { Spec.setPairAf (Spec.popped s) (Spec.top s) p with cost := some 12 }

/-- R456, R603, R604: SP plus a signed byte, to HL or to SP; Z = N = 0, H and C from the unsigned sum of the low bytes. -/
def Obligations.SpPlusDisplacementResult : Prop :=
  ∀ (e : Byte) (s : State),
    (encode (.ldHlSpE8 e) = [0xF8, e] ∧
      exec (.ldHlSpE8 e) s =
        .next { Spec.setPairSp s (Spec.spPlus s.sp e) .hl with f := Spec.spPlusF s.sp e, cost := some 12 }) ∧
    (encode (.addSpE8 e) = [0xE8, e] ∧
      exec (.addSpE8 e) s = .next { s with sp := Spec.spPlus s.sp e, f := Spec.spPlusF s.sp e, cost := some 16 })

/-- R500 to R502 and the register forms R510, R513, R516, R519, R522, R525, R528, R531. -/
def Obligations.AluRegisterResult : Prop :=
  ∀ (op : AluOp) (r : Reg8) (s : State),
    encode (.aluReg op r) = [0x80 + 8 * Spec.aluCode op + Spec.regCode r] ∧
    exec (.aluReg op r) s = .next (Spec.aluState op (s.reg r) 4 s)

/-- The forms with the byte at HL: R511, R514, R517, R520, R523, R526, R529, R532. -/
def Obligations.AluAtHlResult : Prop :=
  ∀ (op : AluOp) (s : State),
    encode (.aluMemHl op) = [0x86 + 8 * Spec.aluCode op] ∧
    exec (.aluMemHl op) s = .next (Spec.aluState op (s.read (s.h ++ s.l)) 8 (s.afterRead (s.h ++ s.l)))

/-- The immediate forms: R512, R515, R518, R521, R524, R527, R530, R533. -/
def Obligations.AluImmediateResult : Prop :=
  ∀ (op : AluOp) (n : Byte) (s : State),
    encode (.aluImm op n) = [0xC6 + 8 * Spec.aluCode op, n] ∧
    exec (.aluImm op n) s = .next (Spec.aluState op n 8 s)

/-- R540 to R543: INC and DEC of a register and of the byte at HL; C is kept. -/
def Obligations.IncDecResult : Prop :=
  ∀ (r : Reg8) (s : State),
    (encode (.incReg r) = [0x04 + 8 * Spec.regCode r] ∧
      exec (.incReg r) s = .next { s.setReg r (s.reg r + 1) with
        f := Spec.flagByte (s.reg r == 0xFF) false (s.reg r &&& 0x0F == 0x0F) (Spec.cf s), cost := some 4 }) ∧
    (encode (.decReg r) = [0x05 + 8 * Spec.regCode r] ∧
      exec (.decReg r) s = .next { s.setReg r (s.reg r - 1) with
        f := Spec.flagByte (s.reg r == 0x01) true (s.reg r &&& 0x0F == 0x00) (Spec.cf s), cost := some 4 }) ∧
    (encode .incMemHl = [0x34] ∧
      exec .incMemHl s = .next { (s.afterRead (s.h ++ s.l)).write (s.h ++ s.l) (s.read (s.h ++ s.l) + 1) with
        f := Spec.flagByte (s.read (s.h ++ s.l) == 0xFF) false (s.read (s.h ++ s.l) &&& 0x0F == 0x0F) (Spec.cf s)
        cost := some 12 }) ∧
    (encode .decMemHl = [0x35] ∧
      exec .decMemHl s = .next { (s.afterRead (s.h ++ s.l)).write (s.h ++ s.l) (s.read (s.h ++ s.l) - 1) with
        f := Spec.flagByte (s.read (s.h ++ s.l) == 0x01) true (s.read (s.h ++ s.l) &&& 0x0F == 0x00) (Spec.cf s)
        cost := some 12 })

/-- R550 to R553: DAA, from A and the flags N, H and C; CPL; SCF; CCF. -/
def Obligations.AccumulatorAdjustResult : Prop :=
  ∀ s : State,
    (encode .daa = [0x27] ∧ exec .daa s = .next { s with
      a := Spec.daaA s.a (Spec.nf s) (Spec.hf s) (Spec.cf s)
      f := Spec.flagByte (Spec.daaA s.a (Spec.nf s) (Spec.hf s) (Spec.cf s) == 0) (Spec.nf s) false
        (Spec.daaFix s.a (Spec.nf s) (Spec.hf s) (Spec.cf s)).2
      cost := some 4 }) ∧
    (encode .cpl = [0x2F] ∧
      exec .cpl s = .next { s with a := 0xFF - s.a, f := Spec.flagByte (Spec.zf s) true true (Spec.cf s), cost := some 4 }) ∧
    (encode .scf = [0x37] ∧
      exec .scf s = .next { s with f := Spec.flagByte (Spec.zf s) false false true, cost := some 4 }) ∧
    (encode .ccf = [0x3F] ∧
      exec .ccf s = .next { s with f := Spec.flagByte (Spec.zf s) false false (!Spec.cf s), cost := some 4 })

/-- R550, X4: DAA after ADD or ADC of two packed BCD bytes gives the packed BCD sum, and after SUB or SBC the packed BCD
difference, modulo 100, with C the decimal carry or borrow. -/
def Obligations.DaaGivesPackedDecimal : Prop :=
  ∀ (x y : Nat) (s : State), x < 100 → y < 100 → s.a = Spec.bcd x →
    (∃ t u, exec (.addAN8 (Spec.bcd y)) s = .next t ∧ exec .daa t = .next u ∧
      u.a = Spec.bcd ((x + y) % 100) ∧ Spec.cf u = decide (x + y ≥ 100)) ∧
    (∃ t u, exec (.adcAN8 (Spec.bcd y)) s = .next t ∧ exec .daa t = .next u ∧
      u.a = Spec.bcd ((x + y + (Spec.cf s).toNat) % 100) ∧ Spec.cf u = decide (x + y + (Spec.cf s).toNat ≥ 100)) ∧
    (∃ t u, exec (.subN8 (Spec.bcd y)) s = .next t ∧ exec .daa t = .next u ∧
      u.a = Spec.bcd ((x + 100 - y) % 100) ∧ Spec.cf u = decide (x < y)) ∧
    (∃ t u, exec (.sbcAN8 (Spec.bcd y)) s = .next t ∧ exec .daa t = .next u ∧
      u.a = Spec.bcd ((x + 200 - y - (Spec.cf s).toNat) % 100) ∧ Spec.cf u = decide (x < y + (Spec.cf s).toNat))

/-- R600, R601: INC and DEC of a pair or SP, modulo 2^16, with no flag. -/
def Obligations.IncDecPairResult : Prop :=
  ∀ (p : PairSp) (s : State),
    (encode (.incPair p) = [0x03 + 16 * Spec.pairSpCode p] ∧
      exec (.incPair p) s =
        .next { Spec.setPairSp s (BitVec.ofNat 16 ((Spec.pairSp s p).toNat + 1)) p with cost := some 8 }) ∧
    (encode (.decPair p) = [0x0B + 16 * Spec.pairSpCode p] ∧
      exec (.decPair p) s =
        .next { Spec.setPairSp s (BitVec.ofNat 16 ((Spec.pairSp s p).toNat + 65535)) p with cost := some 8 })

/-- R602: ADD HL,dd; Z is kept, N = 0, H is the carry out of bit 11, C out of bit 15. -/
def Obligations.AddHlResult : Prop :=
  ∀ (p : PairSp) (s : State),
    encode (.addHlPair p) = [0x09 + 16 * Spec.pairSpCode p] ∧
    exec (.addHlPair p) s = .next { Spec.setPairSp s (Spec.pairSp s .hl + Spec.pairSp s p) .hl with
      f := Spec.flagByte (Spec.zf s) false (Spec.carryAt 12 (Spec.pairSp s .hl) (Spec.pairSp s p) false)
        (Spec.carryAt 16 (Spec.pairSp s .hl) (Spec.pairSp s p) false)
      cost := some 8 }

/-- R650 to R653: RLCA, RRCA, RLA, RRA; Z is cleared even where the result is 0. -/
def Obligations.AccumulatorRotateResult : Prop :=
  ∀ s : State,
    (encode .rlca = [0x07] ∧ exec .rlca s = .next { s with
      a := Spec.rotV .rlc s.a (Spec.cf s), f := Spec.flagByte false false false (s.a.getLsbD 7), cost := some 4 }) ∧
    (encode .rrca = [0x0F] ∧ exec .rrca s = .next { s with
      a := Spec.rotV .rrc s.a (Spec.cf s), f := Spec.flagByte false false false (s.a.getLsbD 0), cost := some 4 }) ∧
    (encode .rla = [0x17] ∧ exec .rla s = .next { s with
      a := Spec.rotV .rl s.a (Spec.cf s), f := Spec.flagByte false false false (s.a.getLsbD 7), cost := some 4 }) ∧
    (encode .rra = [0x1F] ∧ exec .rra s = .next { s with
      a := Spec.rotV .rr s.a (Spec.cf s), f := Spec.flagByte false false false (s.a.getLsbD 0), cost := some 4 })

/-- R660 and the register forms R661, R663, R665, R667, R669, R671, R673, R675. -/
def Obligations.RotateRegisterResult : Prop :=
  ∀ (k : RotOp) (r : Reg8) (s : State),
    encode (.rotReg k r) = [0xCB, 8 * Spec.rotCode k + Spec.regCode r] ∧
    exec (.rotReg k r) s = .next { s.setReg r (Spec.rotV k (s.reg r) (Spec.cf s)) with
      f := Spec.flagByte (Spec.rotV k (s.reg r) (Spec.cf s) == 0) false false (Spec.rotC k (s.reg r)), cost := some 8 }

/-- The forms on the byte at HL, read then written even where the value stays: R662, R664, R666, R668, R670, R672, R674, R676. -/
def Obligations.RotateAtHlResult : Prop :=
  ∀ (k : RotOp) (s : State),
    encode (.rotMemHl k) = [0xCB, 8 * Spec.rotCode k + 6] ∧
    exec (.rotMemHl k) s = .next { (s.afterRead (s.h ++ s.l)).write (s.h ++ s.l) (Spec.rotV k (s.read (s.h ++ s.l)) (Spec.cf s)) with
      f := Spec.flagByte (Spec.rotV k (s.read (s.h ++ s.l)) (Spec.cf s) == 0) false false (Spec.rotC k (s.read (s.h ++ s.l)))
      cost := some 16 }

/-- R680, R681: BIT; Z is the complement of the bit, N = 0, H = 1, C is kept, nothing is written: the byte at HL is read, and no more. -/
def Obligations.BitTestResult : Prop :=
  ∀ (b : Fin 8) (r : Reg8) (s : State),
    (encode (.bitReg b r) = [0xCB, 0x40 + 8 * Spec.bitCode b + Spec.regCode r] ∧
      exec (.bitReg b r) s = .next { s with
        f := Spec.flagByte (decide ((s.reg r).toNat / 2 ^ b.val % 2 = 0)) false true (Spec.cf s), cost := some 8 }) ∧
    (encode (.bitMemHl b) = [0xCB, 0x46 + 8 * Spec.bitCode b] ∧
      exec (.bitMemHl b) s = .next { s.afterRead (s.h ++ s.l) with
        f := Spec.flagByte (decide ((s.read (s.h ++ s.l)).toNat / 2 ^ b.val % 2 = 0)) false true (Spec.cf s)
        cost := some 12 })

/-- R682 to R685: RES and SET; no flag changes. -/
def Obligations.BitResetSetResult : Prop :=
  ∀ (b : Fin 8) (r : Reg8) (s : State),
    (encode (.resReg b r) = [0xCB, 0x80 + 8 * Spec.bitCode b + Spec.regCode r] ∧
      exec (.resReg b r) s = .next { s.setReg r (Spec.without b (s.reg r)) with cost := some 8 }) ∧
    (encode (.resMemHl b) = [0xCB, 0x86 + 8 * Spec.bitCode b] ∧
      exec (.resMemHl b) s =
        .next { (s.afterRead (s.h ++ s.l)).write (s.h ++ s.l) (Spec.without b (s.read (s.h ++ s.l))) with
          cost := some 16 }) ∧
    (encode (.setReg b r) = [0xCB, 0xC0 + 8 * Spec.bitCode b + Spec.regCode r] ∧
      exec (.setReg b r) s = .next { s.setReg r (Spec.withBit b (s.reg r)) with cost := some 8 }) ∧
    (encode (.setMemHl b) = [0xCB, 0xC6 + 8 * Spec.bitCode b] ∧
      exec (.setMemHl b) s =
        .next { (s.afterRead (s.h ++ s.l)).write (s.h ++ s.l) (Spec.withBit b (s.read (s.h ++ s.l))) with
          cost := some 16 })

/-- R750 to R754, R306: the jumps, taken and not taken. -/
def Obligations.JumpResult : Prop :=
  ∀ (cc : Cond) (x : Word) (e : Byte) (s : State),
    (encode (.jpA16 x) = [0xC3, Spec.low x, Spec.high x] ∧ exec (.jpA16 x) s = .next { s with pc := x, cost := some 16 }) ∧
    (encode .jpHl = [0xE9] ∧ exec .jpHl s = .next { s with pc := s.h ++ s.l, cost := some 4 }) ∧
    (encode (.jpCond cc x) = [0xC2 + 8 * Spec.condCode cc, Spec.low x, Spec.high x] ∧
      exec (.jpCond cc x) s =
        if Spec.holds s cc then .next { s with pc := x, cost := some 16 } else .next { s with cost := some 12 }) ∧
    (encode (.jrE8 e) = [0x18, e] ∧
      exec (.jrE8 e) s = .next { s with pc := BitVec.ofInt 16 (s.pc.toNat + e.toInt), cost := some 12 }) ∧
    (encode (.jrCond cc e) = [0x20 + 8 * Spec.condCode cc, e] ∧
      exec (.jrCond cc e) s =
        if Spec.holds s cc then .next { s with pc := BitVec.ofInt 16 (s.pc.toNat + e.toInt), cost := some 12 }
        else .next { s with cost := some 8 })

/-- R755 to R758, R760, R761: CALL, RET, their conditional forms, RETI, which sets IME at once, and RST. -/
def Obligations.CallReturnResult : Prop :=
  ∀ (cc : Cond) (x : Word) (y : Fin 8) (s : State),
    (encode (.callA16 x) = [0xCD, Spec.low x, Spec.high x] ∧ exec (.callA16 x) s = .next { Spec.called s x with cost := some 24 }) ∧
    (encode (.callCond cc x) = [0xC4 + 8 * Spec.condCode cc, Spec.low x, Spec.high x] ∧
      exec (.callCond cc x) s =
        if Spec.holds s cc then .next { Spec.called s x with cost := some 24 } else .next { s with cost := some 12 }) ∧
    (encode .ret = [0xC9] ∧ exec .ret s = .next { Spec.returned s with cost := some 16 }) ∧
    (encode (.retCond cc) = [0xC0 + 8 * Spec.condCode cc] ∧
      exec (.retCond cc) s =
        if Spec.holds s cc then .next { Spec.returned s with cost := some 20 } else .next { s with cost := some 8 }) ∧
    (encode .reti = [0xD9] ∧
      exec .reti s = .next { Spec.returned s with ime := true, eiDelay := 0, cost := some 16 }) ∧
    (encode (.rstTo y) = [0xC7 + 8 * Spec.bitCode y] ∧
      exec (.rstTo y) s = .next { Spec.called s (BitVec.ofNat 16 (8 * y.val)) with cost := some 16 })

/-- R800, R804, and the own effects of HALT (R801) and EI (R805): NOP does nothing; HALT sets `halted`; DI clears IME and a pending
enable at once; EI starts the countdown at 2 only where IME = 0 and no enable is pending. -/
def Obligations.ControlInstructionResult : Prop :=
  ∀ s : State,
    (encode .nop = [0x00] ∧ exec .nop s = .next { s with cost := some 4 }) ∧
    (encode .halt = [0x76] ∧ exec .halt s = .next { s with halted := true, cost := some 4 }) ∧
    (encode .di = [0xF3] ∧ exec .di s = .next { s with ime := false, eiDelay := 0, cost := some 4 }) ∧
    (encode .ei = [0xFB] ∧
      exec .ei s = if s.ime = false ∧ s.eiDelay = 0 then .next { s with eiDelay := 2, cost := some 4 }
        else .next { s with cost := some 4 })

/-- R803: STOP under both modes: it raises `Unmodelled(STOP)` with PC at its first byte, or consumes two bytes and does nothing
else, whatever the second byte. That the raising answers a next state without a cost is log 12 and 13; that both bytes have been fetched when it raises (`s.pc - 2` is
its first byte) is log 23. -/
def Obligations.StopResult : Prop :=
  ∀ (n : Byte) (s : State), encode (.stop n) = [0x10, n] ∧
    (s.params.stopMode = .fault →
      exec (.stop n) s = .next { s with fault := some .unmodelledStop, pc := s.pc - 2, cost := none }) ∧
    (s.params.stopMode = .nop2 → exec (.stop n) s = .next { s with cost := some 4 })

/-! ## The stack -/

/-- R759, R755, R757: RET after CALL, on a stack in plain memory (`Spec.plain`: log 8, log 6) whose two bytes no mirror makes one,
comes back to the address after the CALL with SP as it was and every register but PC unchanged. -/
def Obligations.ReturnComesBackFromCall : Prop :=
  ∀ (x : Word) (s : State), s.memOk = true → Spec.plain s.params (s.sp - 1) → Spec.plain s.params (s.sp - 2) →
    resolve s.params (s.sp - 1) ≠ resolve s.params (s.sp - 2) →
    ∃ t u, exec (.callA16 x) s = .next t ∧ t.pc = x ∧ t.sp = s.sp - 2 ∧ exec .ret t = .next u ∧ u.pc = s.pc ∧ u.sp = s.sp ∧
      (∀ r, u.reg r = s.reg r) ∧ u.f = s.f

/-- R453 to R455, R210: a pair pushed to plain memory (`Spec.plain`: log 8, log 6), to two bytes that no mirror makes one, and popped
into another gives it the first one's value (F without its low nibble), SP as it was. -/
def Obligations.PopGivesBackWhatWasPushed : Prop :=
  ∀ (p q : PairAf) (s : State), s.memOk = true → Spec.plain s.params (s.sp - 1) → Spec.plain s.params (s.sp - 2) →
    resolve s.params (s.sp - 1) ≠ resolve s.params (s.sp - 2) →
    ∃ t u, exec (.pushPair p) s = .next t ∧ exec (.popPair q) t = .next u ∧ u.sp = s.sp ∧
      Spec.pairAf u q = if q = .af then Spec.pairAf s p &&& 0xFFF0 else Spec.pairAf s p

/-! ## Memory and the bus -/

/-- R200, R230: a byte stored to plain memory is read back, and every address the store does not touch reads as before. R207 promises
that read back of no device's location: that video RAM, OAM and cartridge RAM give it, and every address that a `BUS` serves as RAM, is
the model's choice (log 8, log 6). A mirror (log 18) is another name of the byte. -/
def Obligations.ReadAfterWrite : Prop :=
  ∀ (s : State) (x : Word) (v : Byte), s.memOk = true →
    (Spec.plain s.params x → (s.write x v).read x = v) ∧
    (Spec.plain s.params x → ∀ k, resolve s.params k ≠ resolve s.params x → (s.write x v).read k = s.read k) ∧
    (∀ k, storeTouches s.params x k = false → (s.write x v).read k = s.read k)

/-- Two memories in canonical form that read the same at every address are equal, and a store keeps the form. -/
def Obligations.EqualMemoriesAreEqualData : Prop :=
  (∀ m m' : Memory, m.wf = true → m'.wf = true → (∀ x : Word, m.read x.toNat = m'.read x.toNat) → m = m') ∧
  (∀ (m : Memory) (x : Word) (v : Byte), m.wf = true → (m.write x.toNat v).wf = true)

/-- R221, D14: behind the default bus every unclaimed address reads 0xFF and a write there changes nothing. -/
def Obligations.OpenBusReadsFf : Prop :=
  ∀ (s : State) (x : Word) (v : Byte), s.params.bus = .standard →
    ((0xE000 ≤ x ∧ x < 0xFE00) ∨ (0xFEA0 ≤ x ∧ x < 0xFF00) ∨
      (0xFF00 ≤ x ∧ x < 0xFF80 ∧ x ∉ s.params.ioClaimed ∧
        x ∉ ([0xFF04, 0xFF05, 0xFF06, 0xFF07, 0xFF0F, 0xFF46, 0xFF50] : List Word))) →
    s.read x = 0xFF ∧ s.write x v = s

/-- R1023: a store to a ROM address changes no byte of ROM. R226 lets the cartridge take it as a bank-register write; that nothing of this
machine changes within the store, no bank among it, is the model's choice (log 7): a change of bank comes as a later event (log 6). -/
def Obligations.RomStoresChangeNothing : Prop :=
  ∀ (s : State) (x : Word) (v : Byte), s.params.bus = .standard → x < 0x8000 → s.write x v = s

/-- R121, R122, R918: IE and IF are the bytes at 0xFFFF and 0xFF0F, and a store there is what the next step's check sees. That all eight
bits of each are stored and read back, 7:5 among them, is the model's choice (log 17), and so is that no `BUS` serves those two addresses
otherwise (log 18). -/
def Obligations.LatchesAreBusLocations : Prop :=
  ∀ (s : State) (v : Byte),
    s.read 0xFFFF = s.ie ∧ s.read 0xFF0F = s.iflag ∧
    s.write 0xFFFF v = { s with ie := v } ∧ s.write 0xFF0F v = { s with iflag := v } ∧
    (s.write 0xFFFF v).pending = v &&& s.iflag &&& 0x1F ∧ (s.write 0xFF0F v).pending = s.ie &&& v &&& 0x1F

/-- R223, D21: behind the default bus a write to 0xFF46 has copied, when it returns, the 160 bytes from `v << 8` as the CPU reads
them into OAM, and no other address reads differently. With v = 0xFF one source byte is the trigger itself, which already holds `v`
(log 10). -/
def Obligations.OamDmaCopies160Bytes : Prop :=
  ∀ (s : State) (v : Byte), s.memOk = true → s.params.bus = .standard →
    (∀ n : Nat, n < 160 → (s.write 0xFF46 v).read (0xFE00 + BitVec.ofNat 16 n) =
      if v = 0xFF ∧ n = 0x46 then v else s.read (BitVec.ofNat 16 (v.toNat * 256 + n))) ∧
    (∀ k : Word, ¬ (0xFE00 ≤ k ∧ k < 0xFEA0) → k ≠ 0xFF46 → (s.write 0xFF46 v).read k = s.read k)

/-- R222, R1007: while the overlay is active 0x0000–0x00FF read the boot image, and every other ROM address the cartridge; a write
to 0xFF50, of any value (log 11), ends it, and from then on 0x0000–0x00FF read the cartridge. -/
def Obligations.BootOverlayServesTheImage : Prop :=
  ∀ (s : State) (x : Word) (v : Byte), s.memOk = true → s.params.bus = .standard →
    (s.overlay = true → x < 0x0100 → s.read x = s.bootRom.read x.toNat) ∧
    (0x0100 ≤ x → x < 0x8000 → s.read x = s.mem.read x.toNat) ∧
    (s.write 0xFF50 v).overlay = false ∧ (x < 0x8000 → (s.write 0xFF50 v).read x = s.mem.read x.toNat)

/-- R951: writing DIV resets it and its sub-cycle counter; changing TAC's speed bits resets the prescaler and reloads TIMA from
TMA. A step's cost of `n` T-states completes `(timaPhase + n) / period` prescaler periods while the timer is enabled: TIMA moves by
that many counts, and where it overflows on the way it goes on from TMA and IF bit 2 is raised; disabled, it stands still. The timer
is modelled although the scope leaves it to the environment (log 9). -/
def Obligations.TimerCountsAndReloads : Prop :=
  (∀ (s : State) (v : Byte), s.params.bus = .standard →
    s.write 0xFF04 v = { s with timer := { s.timer with div := 0, divPhase := 0 } } ∧
    s.write 0xFF07 v = { s with timer := if v &&& 3 = s.timer.tac &&& 3 then { s.timer with tac := v }
      else { s.timer with tac := v, timaPhase := 0, tima := s.timer.tma } }) ∧
  (∀ (s : State) (n k : Nat), s.params.bus = .standard → s.cost = some n →
    k = (s.timer.timaPhase + n) / Timer.period s.timer.tac →
    (s.timer.tac.getLsbD 2 = false → s.timerElapse.timer.tima = s.timer.tima ∧ s.timerElapse.iflag = s.iflag ∧
      s.timerElapse.timer.timaPhase = s.timer.timaPhase) ∧
    (s.timer.tac.getLsbD 2 = true → s.timerElapse.timer.timaPhase = (s.timer.timaPhase + n) % Timer.period s.timer.tac ∧
      (s.timer.tima.toNat + k < 256 →
        s.timerElapse.timer.tima = s.timer.tima + BitVec.ofNat 8 k ∧ s.timerElapse.iflag = s.iflag) ∧
      (256 ≤ s.timer.tima.toNat + k → s.timer.tma.toNat + (s.timer.tima.toNat + k - 256) < 256 →
        s.timerElapse.timer.tima = s.timer.tma + BitVec.ofNat 8 (s.timer.tima.toNat + k - 256) ∧
        s.timerElapse.iflag = s.iflag ||| 0x04)) ∧
    s.timerElapse.timer.div = s.timer.div + BitVec.ofNat 8 ((s.timer.divPhase + n) / 256) ∧
    s.timerElapse.timer.divPhase = (s.timer.divPhase + n) % 256)

/-- R10, R200, R207, R221: `BUS` is a parameter. With the mirror that R221 leaves to a model that needs it, every access to
0xE000–0xFDFF is the access to the work RAM 0x2000 below. And whatever the `BUS` (any states, any answers, both a read and a write
changing its state), the answers it gives to any accesses but those of the IE and IF latches are the ones the machine's reads give
with those answers in `State.answers`, in that order; a write changes nothing else there. That a `BUS` enters as the list of its answers is the
model's choice (log 18, log 22). -/
def Obligations.AnyBusCanBeGiven : Prop :=
  (∀ (s : State) (x : Word) (v : Byte), s.params.bus = .echo → 0xE000 ≤ x → x < 0xFE00 →
    s.read x = s.read (x - 0x2000) ∧ s.afterRead x = s.afterRead (x - 0x2000) ∧ s.write x v = s.write (x - 0x2000) v) ∧
  (∀ (β : Type) (rd : β → Word → Byte × β) (wr : β → Word → Byte → β) (b : β) (accesses : List Spec.Access) (rest : List Byte)
    (s : State), s.params.bus = .unknown → s.answers = Spec.busReads rd wr b accesses ++ rest →
    (∀ a ∈ accesses, a.addr ≠ 0xFFFF ∧ a.addr ≠ 0xFF0F) →
    Spec.cpuReads s accesses = (Spec.busReads rd wr b accesses, { s with answers := rest }))

/-- R956, R1043: `run_frame()` always ends: the steps have returned a frame's T-states, no step begun after they had, or the machine has
stopped (R906). Where the T-states past the frame's end go is the model's choice (log 20): they count for no later call. -/
def Obligations.RunFrameAlwaysEnds : Prop :=
  ∀ s : State,
    (∃ t n, runFrame s = .elapsed t ∧ Spec.Ran n s t ∧ 70224 ≤ n ∧ n < 70224 + 24) ∨
    (∃ t r, runFrame s = .stopped t (.stopped r) ∧ t.fault = some r)

/-! ## Registers and reset -/

/-- R101, R105: a pair is its two registers, the first-named in bits 15:8; a write of a pair shows in both halves and reads back,
but for F's low nibble, which always reads 0. -/
def Obligations.PairsAliasRegisters : Prop :=
  ∀ (s : State) (w : Word),
    (s.bc = s.b ++ s.c ∧ s.de = s.d ++ s.e ∧ s.hl = s.h ++ s.l ∧ s.af = s.a ++ s.regF) ∧
    ((s.setBc w).bc = w ∧ (s.setDe w).de = w ∧ (s.setHl w).hl = w ∧ (s.setAf w).af = w &&& 0xFFF0) ∧
    ((s.setBc w).b = Spec.high w ∧ (s.setDe w).d = Spec.high w ∧ (s.setHl w).h = Spec.high w ∧ (s.setAf w).a = Spec.high w) ∧
    ((s.setBc w).c = Spec.low w ∧ (s.setDe w).e = Spec.low w ∧ (s.setHl w).l = Spec.low w)

/-- R105: F[3:0] reads 0 in every state, and every write of F, of a pair or of the flags stores only bits 7:4. -/
def Obligations.FLowNibbleReadsZero : Prop :=
  ∀ (s : State) (v : Byte) (w : Word) (fl : Flags) (p : PairAf) (q : PairSp),
    s.regF &&& 0x0F = 0 ∧ (s.setPairAf p w).regF &&& 0x0F = 0 ∧ (s.setPairSp q w).regF &&& 0x0F = 0 ∧
    (s.setF v).f = v &&& 0xF0 ∧ (s.setFlags fl).f &&& 0x0F = 0 ∧ (s.setAf w).f = Spec.low w &&& 0xF0

/-- R1001, R1002, R1003: the state after reset, whatever the environment holds. Without the boot ROM the registers are the DMG's after
its boot ROM; with it they are INIT_REGS, for every value, with F[3:0] = 0, and the first fetch reads the boot image. -/
def Obligations.ResetProfiles : Prop :=
  (∀ v : EnvReset, (State.resetNoBoot v).a = 0x01 ∧ (State.resetNoBoot v).f = 0xB0 ∧ (State.resetNoBoot v).b = 0x00 ∧
    (State.resetNoBoot v).c = 0x13 ∧ (State.resetNoBoot v).d = 0x00 ∧ (State.resetNoBoot v).e = 0xD8 ∧
    (State.resetNoBoot v).h = 0x01 ∧ (State.resetNoBoot v).l = 0x4D ∧ (State.resetNoBoot v).sp = 0xFFFE ∧
    (State.resetNoBoot v).pc = 0x0100 ∧ (State.resetNoBoot v).af = 0x01B0 ∧ (State.resetNoBoot v).bc = 0x0013 ∧
    (State.resetNoBoot v).de = 0x00D8 ∧ (State.resetNoBoot v).hl = 0x014D ∧
    (State.resetNoBoot v).ime = false ∧ (State.resetNoBoot v).halted = false ∧ (State.resetNoBoot v).eiDelay = 0 ∧
    (State.resetNoBoot v).fault = none) ∧
  (∀ (r : InitRegs) (v : EnvReset), (State.resetBoot r v).pc = 0x0000 ∧
    (State.resetBoot r v).a = r.a ∧ (State.resetBoot r v).f = r.f &&& 0xF0 ∧ (State.resetBoot r v).b = r.b ∧
    (State.resetBoot r v).c = r.c ∧ (State.resetBoot r v).d = r.d ∧ (State.resetBoot r v).e = r.e ∧
    (State.resetBoot r v).h = r.h ∧ (State.resetBoot r v).l = r.l ∧ (State.resetBoot r v).sp = r.sp ∧
    (State.resetBoot r v).ime = false ∧ (State.resetBoot r v).halted = false ∧ (State.resetBoot r v).eiDelay = 0 ∧
    (State.resetBoot r v).fault = none ∧
    (v.params.bus = .standard → (State.resetBoot r v).read (State.resetBoot r v).pc = v.bootRom.read 0))
end

