-- ==== Sys2Proof/Laws/Memory.lean ====
section
/-! SUPPORT. The laws of memory: what a read after a write gives, and that every operation keeps the canonical form. -/

namespace Sys2Proof.Machine

theorem Memory.wfFrom_cons {lo k : Nat} {v : Byte} {rest : Memory} :
    Memory.wfFrom lo ((k, v) :: rest) = true ↔
      lo ≤ k ∧ k < 65536 ∧ v ≠ Memory.unlisted ∧ Memory.wfFrom (k + 1) rest = true := by
  simp [Memory.wfFrom, and_assoc]

/-- A lower bound may be lowered. -/
theorem Memory.wfFrom_mono {lo lo' : Nat} {m : Memory} (h : Memory.wfFrom lo m = true) (hl : lo' ≤ lo) :
    Memory.wfFrom lo' m = true := by
  cases m with
  | nil => rfl
  | cons c rest =>
    obtain ⟨k, v⟩ := c
    rw [Memory.wfFrom_cons] at h ⊢
    exact ⟨by omega, h.2⟩

/-- An address below a memory reads as unlisted. -/
theorem Memory.read_below {lo : Nat} {m : Memory} (h : Memory.wfFrom lo m = true) {a : Nat} (ha : a < lo) :
    m.read a = Memory.unlisted := by
  induction m generalizing lo with
  | nil => rfl
  | cons c rest ih =>
    obtain ⟨k, v⟩ := c
    rw [Memory.wfFrom_cons] at h
    rw [Memory.read, if_neg (by omega)]
    exact ih h.2.2.2 (by omega)

/-- Reading a memory with one entry put in front. -/
theorem Memory.read_put {lo : Nat} {rest : Memory} (h : Memory.wfFrom lo rest = true) {a : Nat} (ha : a < lo) (v : Byte)
    (b : Nat) : (Memory.put a v rest).read b = if b = a then v else rest.read b := by
  unfold Memory.put
  split
  · rename_i hv
    split
    · rename_i hb
      rw [hb, Memory.read_below h ha, hv]
    · rfl
  · rfl

theorem Memory.read_write_from {lo : Nat} {m : Memory} (h : Memory.wfFrom lo m = true) (a : Nat) (v : Byte) (b : Nat) :
    (m.write a v).read b = if b = a then v else m.read b := by
  induction m generalizing lo with
  | nil => exact Memory.read_put (lo := a + 1) rfl (by omega) v b
  | cons c rest ih =>
    obtain ⟨k, w⟩ := c
    have hc := Memory.wfFrom_cons.mp h
    rw [Memory.write]
    split
    · exact Memory.read_put (lo := k) (Memory.wfFrom_cons.mpr ⟨le_rfl, hc.2⟩) ‹_› v b
    · split
      · rename_i hak
        rw [Memory.read_put hc.2.2.2 (by omega) v b, Memory.read]
        split <;> simp_all
      · rw [Memory.read, Memory.read, ih hc.2.2.2]
        split <;> split <;> first | rfl | omega

/-- What a read after a write gives. -/
theorem Memory.read_write {m : Memory} (h : m.wf = true) (a : Nat) (v : Byte) (b : Nat) :
    (m.write a v).read b = if b = a then v else m.read b := Memory.read_write_from h a v b

theorem Memory.put_wfFrom {lo a : Nat} {v : Byte} {rest : Memory} (h : Memory.wfFrom (a + 1) rest = true) (hl : lo ≤ a)
    (ha : a < 65536) : Memory.wfFrom lo (Memory.put a v rest) = true := by
  unfold Memory.put
  split
  · exact Memory.wfFrom_mono h (by omega)
  · exact Memory.wfFrom_cons.mpr ⟨hl, ha, ‹_›, h⟩

theorem Memory.write_wfFrom {lo : Nat} {m : Memory} (h : Memory.wfFrom lo m = true) {a : Nat} (hl : lo ≤ a) (ha : a < 65536)
    (v : Byte) : Memory.wfFrom lo (m.write a v) = true := by
  induction m generalizing lo with
  | nil => exact Memory.put_wfFrom rfl hl ha
  | cons c rest ih =>
    obtain ⟨k, w⟩ := c
    have hc := Memory.wfFrom_cons.mp h
    rw [Memory.write]
    split
    · exact Memory.put_wfFrom (Memory.wfFrom_cons.mpr ⟨by omega, hc.2⟩) hl ha
    · split
      · rename_i hak
        subst hak
        exact Memory.put_wfFrom hc.2.2.2 hl ha
      · exact Memory.wfFrom_cons.mpr ⟨hc.1, hc.2.1, hc.2.2.1, ih hc.2.2.2 (by omega)⟩

/-- A write inside the address space keeps the canonical form. -/
theorem Memory.write_wf {m : Memory} (h : m.wf = true) {a : Nat} (ha : a < 65536) (v : Byte) : (m.write a v).wf = true :=
  Memory.write_wfFrom h (Nat.zero_le a) ha v

/-- A write lists no address but its own and those listed before. -/
theorem Memory.mem_write {m : Memory} {a : Nat} {v : Byte} {c : Host.Cell} (h : c ∈ m.write a v) : c.1 = a ∨ c ∈ m := by
  have hput : ∀ rest : Memory, c ∈ Memory.put a v rest → c.1 = a ∨ c ∈ rest := by
    intro rest hr
    unfold Memory.put at hr
    split at hr
    · exact .inr hr
    · rcases List.mem_cons.mp hr with rfl | hr
      · exact .inl rfl
      · exact .inr hr
  induction m with
  | nil => exact hput [] h
  | cons d rest ih =>
    obtain ⟨k, w⟩ := d
    rw [Memory.write] at h
    split at h
    · exact hput _ h
    · split at h
      · rcases hput _ h with h | h
        · exact .inl h
        · exact .inr (List.mem_cons_of_mem _ h)
      · rcases List.mem_cons.mp h with rfl | h
        · exact .inr List.mem_cons_self
        · rcases ih h with h | h
          · exact .inl h
          · exact .inr (List.mem_cons_of_mem _ h)

/-- Bytes placed inside the address space keep the canonical form. -/
theorem Memory.ofBytes_wf {m : Memory} (h : m.wf = true) (bytes : List Byte) {a : Nat} (ha : a + bytes.length ≤ 65536) :
    (Memory.ofBytes m a bytes).wf = true := by
  induction bytes generalizing m a with
  | nil => exact h
  | cons v rest ih =>
    simp only [List.length_cons] at ha
    exact ih (Memory.write_wf h (by omega) v) (by omega)

end Sys2Proof.Machine
end

