-- ==== Sys2Proof/Laws/State.lean ====
section
/-! SUPPORT. One lemma a field for every plain update of the state, so that no later proof unfolds a record update; then the
same for the updates that choose a register, and what the register readers see. -/

namespace Sys2Proof.Machine


/-! ### setF -/

@[simp] theorem State.setF_a (s : State) (v : Byte) : (s.setF v).a = s.a := rfl
@[simp] theorem State.setF_f (s : State) (v : Byte) : (s.setF v).f = v &&& 0xF0 := rfl
@[simp] theorem State.setF_b (s : State) (v : Byte) : (s.setF v).b = s.b := rfl
@[simp] theorem State.setF_c (s : State) (v : Byte) : (s.setF v).c = s.c := rfl
@[simp] theorem State.setF_d (s : State) (v : Byte) : (s.setF v).d = s.d := rfl
@[simp] theorem State.setF_e (s : State) (v : Byte) : (s.setF v).e = s.e := rfl
@[simp] theorem State.setF_h (s : State) (v : Byte) : (s.setF v).h = s.h := rfl
@[simp] theorem State.setF_l (s : State) (v : Byte) : (s.setF v).l = s.l := rfl
@[simp] theorem State.setF_sp (s : State) (v : Byte) : (s.setF v).sp = s.sp := rfl
@[simp] theorem State.setF_pc (s : State) (v : Byte) : (s.setF v).pc = s.pc := rfl
@[simp] theorem State.setF_ime (s : State) (v : Byte) : (s.setF v).ime = s.ime := rfl
@[simp] theorem State.setF_halted (s : State) (v : Byte) : (s.setF v).halted = s.halted := rfl
@[simp] theorem State.setF_eiDelay (s : State) (v : Byte) : (s.setF v).eiDelay = s.eiDelay := rfl
@[simp] theorem State.setF_fault (s : State) (v : Byte) : (s.setF v).fault = s.fault := rfl
@[simp] theorem State.setF_ie (s : State) (v : Byte) : (s.setF v).ie = s.ie := rfl
@[simp] theorem State.setF_iflag (s : State) (v : Byte) : (s.setF v).iflag = s.iflag := rfl
@[simp] theorem State.setF_mem (s : State) (v : Byte) : (s.setF v).mem = s.mem := rfl
@[simp] theorem State.setF_bootRom (s : State) (v : Byte) : (s.setF v).bootRom = s.bootRom := rfl
@[simp] theorem State.setF_overlay (s : State) (v : Byte) : (s.setF v).overlay = s.overlay := rfl
@[simp] theorem State.setF_timer (s : State) (v : Byte) : (s.setF v).timer = s.timer := rfl
@[simp] theorem State.setF_cost (s : State) (v : Byte) : (s.setF v).cost = s.cost := rfl
@[simp] theorem State.setF_params (s : State) (v : Byte) : (s.setF v).params = s.params := rfl
@[simp] theorem State.setF_env (s : State) (v : Byte) : (s.setF v).env = s.env := rfl
@[simp] theorem State.setF_answers (s : State) (v : Byte) : (s.setF v).answers = s.answers := rfl
@[simp] theorem State.setF_draws (s : State) (v : Byte) : (s.setF v).draws = s.draws := rfl
@[simp] theorem State.setF_read (s : State) (v : Byte) (k : Word) : (s.setF v).read k = s.read k := rfl

/-! ### setFlags -/

@[simp] theorem State.setFlags_a (s : State) (fl : Flags) : (s.setFlags fl).a = s.a := rfl
@[simp] theorem State.setFlags_f (s : State) (fl : Flags) : (s.setFlags fl).f = fl.byte &&& 0xF0 := rfl
@[simp] theorem State.setFlags_b (s : State) (fl : Flags) : (s.setFlags fl).b = s.b := rfl
@[simp] theorem State.setFlags_c (s : State) (fl : Flags) : (s.setFlags fl).c = s.c := rfl
@[simp] theorem State.setFlags_d (s : State) (fl : Flags) : (s.setFlags fl).d = s.d := rfl
@[simp] theorem State.setFlags_e (s : State) (fl : Flags) : (s.setFlags fl).e = s.e := rfl
@[simp] theorem State.setFlags_h (s : State) (fl : Flags) : (s.setFlags fl).h = s.h := rfl
@[simp] theorem State.setFlags_l (s : State) (fl : Flags) : (s.setFlags fl).l = s.l := rfl
@[simp] theorem State.setFlags_sp (s : State) (fl : Flags) : (s.setFlags fl).sp = s.sp := rfl
@[simp] theorem State.setFlags_pc (s : State) (fl : Flags) : (s.setFlags fl).pc = s.pc := rfl
@[simp] theorem State.setFlags_ime (s : State) (fl : Flags) : (s.setFlags fl).ime = s.ime := rfl
@[simp] theorem State.setFlags_halted (s : State) (fl : Flags) : (s.setFlags fl).halted = s.halted := rfl
@[simp] theorem State.setFlags_eiDelay (s : State) (fl : Flags) : (s.setFlags fl).eiDelay = s.eiDelay := rfl
@[simp] theorem State.setFlags_fault (s : State) (fl : Flags) : (s.setFlags fl).fault = s.fault := rfl
@[simp] theorem State.setFlags_ie (s : State) (fl : Flags) : (s.setFlags fl).ie = s.ie := rfl
@[simp] theorem State.setFlags_iflag (s : State) (fl : Flags) : (s.setFlags fl).iflag = s.iflag := rfl
@[simp] theorem State.setFlags_mem (s : State) (fl : Flags) : (s.setFlags fl).mem = s.mem := rfl
@[simp] theorem State.setFlags_bootRom (s : State) (fl : Flags) : (s.setFlags fl).bootRom = s.bootRom := rfl
@[simp] theorem State.setFlags_overlay (s : State) (fl : Flags) : (s.setFlags fl).overlay = s.overlay := rfl
@[simp] theorem State.setFlags_timer (s : State) (fl : Flags) : (s.setFlags fl).timer = s.timer := rfl
@[simp] theorem State.setFlags_cost (s : State) (fl : Flags) : (s.setFlags fl).cost = s.cost := rfl
@[simp] theorem State.setFlags_params (s : State) (fl : Flags) : (s.setFlags fl).params = s.params := rfl
@[simp] theorem State.setFlags_env (s : State) (fl : Flags) : (s.setFlags fl).env = s.env := rfl
@[simp] theorem State.setFlags_answers (s : State) (fl : Flags) : (s.setFlags fl).answers = s.answers := rfl
@[simp] theorem State.setFlags_draws (s : State) (fl : Flags) : (s.setFlags fl).draws = s.draws := rfl
@[simp] theorem State.setFlags_read (s : State) (fl : Flags) (k : Word) : (s.setFlags fl).read k = s.read k := rfl

/-! ### charge -/

@[simp] theorem State.charge_a (s : State) (n : Nat) : (s.charge n).a = s.a := rfl
@[simp] theorem State.charge_f (s : State) (n : Nat) : (s.charge n).f = s.f := rfl
@[simp] theorem State.charge_b (s : State) (n : Nat) : (s.charge n).b = s.b := rfl
@[simp] theorem State.charge_c (s : State) (n : Nat) : (s.charge n).c = s.c := rfl
@[simp] theorem State.charge_d (s : State) (n : Nat) : (s.charge n).d = s.d := rfl
@[simp] theorem State.charge_e (s : State) (n : Nat) : (s.charge n).e = s.e := rfl
@[simp] theorem State.charge_h (s : State) (n : Nat) : (s.charge n).h = s.h := rfl
@[simp] theorem State.charge_l (s : State) (n : Nat) : (s.charge n).l = s.l := rfl
@[simp] theorem State.charge_sp (s : State) (n : Nat) : (s.charge n).sp = s.sp := rfl
@[simp] theorem State.charge_pc (s : State) (n : Nat) : (s.charge n).pc = s.pc := rfl
@[simp] theorem State.charge_ime (s : State) (n : Nat) : (s.charge n).ime = s.ime := rfl
@[simp] theorem State.charge_halted (s : State) (n : Nat) : (s.charge n).halted = s.halted := rfl
@[simp] theorem State.charge_eiDelay (s : State) (n : Nat) : (s.charge n).eiDelay = s.eiDelay := rfl
@[simp] theorem State.charge_fault (s : State) (n : Nat) : (s.charge n).fault = s.fault := rfl
@[simp] theorem State.charge_ie (s : State) (n : Nat) : (s.charge n).ie = s.ie := rfl
@[simp] theorem State.charge_iflag (s : State) (n : Nat) : (s.charge n).iflag = s.iflag := rfl
@[simp] theorem State.charge_mem (s : State) (n : Nat) : (s.charge n).mem = s.mem := rfl
@[simp] theorem State.charge_bootRom (s : State) (n : Nat) : (s.charge n).bootRom = s.bootRom := rfl
@[simp] theorem State.charge_overlay (s : State) (n : Nat) : (s.charge n).overlay = s.overlay := rfl
@[simp] theorem State.charge_timer (s : State) (n : Nat) : (s.charge n).timer = s.timer := rfl
@[simp] theorem State.charge_cost (s : State) (n : Nat) : (s.charge n).cost = some n := rfl
@[simp] theorem State.charge_params (s : State) (n : Nat) : (s.charge n).params = s.params := rfl
@[simp] theorem State.charge_env (s : State) (n : Nat) : (s.charge n).env = s.env := rfl
@[simp] theorem State.charge_answers (s : State) (n : Nat) : (s.charge n).answers = s.answers := rfl
@[simp] theorem State.charge_draws (s : State) (n : Nat) : (s.charge n).draws = s.draws := rfl
@[simp] theorem State.charge_read (s : State) (n : Nat) (k : Word) : (s.charge n).read k = s.read k := rfl

/-! ### setPc -/

@[simp] theorem State.setPc_a (s : State) (w : Word) : (s.setPc w).a = s.a := rfl
@[simp] theorem State.setPc_f (s : State) (w : Word) : (s.setPc w).f = s.f := rfl
@[simp] theorem State.setPc_b (s : State) (w : Word) : (s.setPc w).b = s.b := rfl
@[simp] theorem State.setPc_c (s : State) (w : Word) : (s.setPc w).c = s.c := rfl
@[simp] theorem State.setPc_d (s : State) (w : Word) : (s.setPc w).d = s.d := rfl
@[simp] theorem State.setPc_e (s : State) (w : Word) : (s.setPc w).e = s.e := rfl
@[simp] theorem State.setPc_h (s : State) (w : Word) : (s.setPc w).h = s.h := rfl
@[simp] theorem State.setPc_l (s : State) (w : Word) : (s.setPc w).l = s.l := rfl
@[simp] theorem State.setPc_sp (s : State) (w : Word) : (s.setPc w).sp = s.sp := rfl
@[simp] theorem State.setPc_pc (s : State) (w : Word) : (s.setPc w).pc = w := rfl
@[simp] theorem State.setPc_ime (s : State) (w : Word) : (s.setPc w).ime = s.ime := rfl
@[simp] theorem State.setPc_halted (s : State) (w : Word) : (s.setPc w).halted = s.halted := rfl
@[simp] theorem State.setPc_eiDelay (s : State) (w : Word) : (s.setPc w).eiDelay = s.eiDelay := rfl
@[simp] theorem State.setPc_fault (s : State) (w : Word) : (s.setPc w).fault = s.fault := rfl
@[simp] theorem State.setPc_ie (s : State) (w : Word) : (s.setPc w).ie = s.ie := rfl
@[simp] theorem State.setPc_iflag (s : State) (w : Word) : (s.setPc w).iflag = s.iflag := rfl
@[simp] theorem State.setPc_mem (s : State) (w : Word) : (s.setPc w).mem = s.mem := rfl
@[simp] theorem State.setPc_bootRom (s : State) (w : Word) : (s.setPc w).bootRom = s.bootRom := rfl
@[simp] theorem State.setPc_overlay (s : State) (w : Word) : (s.setPc w).overlay = s.overlay := rfl
@[simp] theorem State.setPc_timer (s : State) (w : Word) : (s.setPc w).timer = s.timer := rfl
@[simp] theorem State.setPc_cost (s : State) (w : Word) : (s.setPc w).cost = s.cost := rfl
@[simp] theorem State.setPc_params (s : State) (w : Word) : (s.setPc w).params = s.params := rfl
@[simp] theorem State.setPc_env (s : State) (w : Word) : (s.setPc w).env = s.env := rfl
@[simp] theorem State.setPc_answers (s : State) (w : Word) : (s.setPc w).answers = s.answers := rfl
@[simp] theorem State.setPc_draws (s : State) (w : Word) : (s.setPc w).draws = s.draws := rfl
@[simp] theorem State.setPc_read (s : State) (w : Word) (k : Word) : (s.setPc w).read k = s.read k := rfl

/-! ### setSp -/

@[simp] theorem State.setSp_a (s : State) (w : Word) : (s.setSp w).a = s.a := rfl
@[simp] theorem State.setSp_f (s : State) (w : Word) : (s.setSp w).f = s.f := rfl
@[simp] theorem State.setSp_b (s : State) (w : Word) : (s.setSp w).b = s.b := rfl
@[simp] theorem State.setSp_c (s : State) (w : Word) : (s.setSp w).c = s.c := rfl
@[simp] theorem State.setSp_d (s : State) (w : Word) : (s.setSp w).d = s.d := rfl
@[simp] theorem State.setSp_e (s : State) (w : Word) : (s.setSp w).e = s.e := rfl
@[simp] theorem State.setSp_h (s : State) (w : Word) : (s.setSp w).h = s.h := rfl
@[simp] theorem State.setSp_l (s : State) (w : Word) : (s.setSp w).l = s.l := rfl
@[simp] theorem State.setSp_sp (s : State) (w : Word) : (s.setSp w).sp = w := rfl
@[simp] theorem State.setSp_pc (s : State) (w : Word) : (s.setSp w).pc = s.pc := rfl
@[simp] theorem State.setSp_ime (s : State) (w : Word) : (s.setSp w).ime = s.ime := rfl
@[simp] theorem State.setSp_halted (s : State) (w : Word) : (s.setSp w).halted = s.halted := rfl
@[simp] theorem State.setSp_eiDelay (s : State) (w : Word) : (s.setSp w).eiDelay = s.eiDelay := rfl
@[simp] theorem State.setSp_fault (s : State) (w : Word) : (s.setSp w).fault = s.fault := rfl
@[simp] theorem State.setSp_ie (s : State) (w : Word) : (s.setSp w).ie = s.ie := rfl
@[simp] theorem State.setSp_iflag (s : State) (w : Word) : (s.setSp w).iflag = s.iflag := rfl
@[simp] theorem State.setSp_mem (s : State) (w : Word) : (s.setSp w).mem = s.mem := rfl
@[simp] theorem State.setSp_bootRom (s : State) (w : Word) : (s.setSp w).bootRom = s.bootRom := rfl
@[simp] theorem State.setSp_overlay (s : State) (w : Word) : (s.setSp w).overlay = s.overlay := rfl
@[simp] theorem State.setSp_timer (s : State) (w : Word) : (s.setSp w).timer = s.timer := rfl
@[simp] theorem State.setSp_cost (s : State) (w : Word) : (s.setSp w).cost = s.cost := rfl
@[simp] theorem State.setSp_params (s : State) (w : Word) : (s.setSp w).params = s.params := rfl
@[simp] theorem State.setSp_env (s : State) (w : Word) : (s.setSp w).env = s.env := rfl
@[simp] theorem State.setSp_answers (s : State) (w : Word) : (s.setSp w).answers = s.answers := rfl
@[simp] theorem State.setSp_draws (s : State) (w : Word) : (s.setSp w).draws = s.draws := rfl
@[simp] theorem State.setSp_read (s : State) (w : Word) (k : Word) : (s.setSp w).read k = s.read k := rfl

/-! ### poke -/

@[simp] theorem State.poke_a (s : State) (x : Word) (v : Byte) : (s.poke x v).a = s.a := rfl
@[simp] theorem State.poke_f (s : State) (x : Word) (v : Byte) : (s.poke x v).f = s.f := rfl
@[simp] theorem State.poke_b (s : State) (x : Word) (v : Byte) : (s.poke x v).b = s.b := rfl
@[simp] theorem State.poke_c (s : State) (x : Word) (v : Byte) : (s.poke x v).c = s.c := rfl
@[simp] theorem State.poke_d (s : State) (x : Word) (v : Byte) : (s.poke x v).d = s.d := rfl
@[simp] theorem State.poke_e (s : State) (x : Word) (v : Byte) : (s.poke x v).e = s.e := rfl
@[simp] theorem State.poke_h (s : State) (x : Word) (v : Byte) : (s.poke x v).h = s.h := rfl
@[simp] theorem State.poke_l (s : State) (x : Word) (v : Byte) : (s.poke x v).l = s.l := rfl
@[simp] theorem State.poke_sp (s : State) (x : Word) (v : Byte) : (s.poke x v).sp = s.sp := rfl
@[simp] theorem State.poke_pc (s : State) (x : Word) (v : Byte) : (s.poke x v).pc = s.pc := rfl
@[simp] theorem State.poke_ime (s : State) (x : Word) (v : Byte) : (s.poke x v).ime = s.ime := rfl
@[simp] theorem State.poke_halted (s : State) (x : Word) (v : Byte) : (s.poke x v).halted = s.halted := rfl
@[simp] theorem State.poke_eiDelay (s : State) (x : Word) (v : Byte) : (s.poke x v).eiDelay = s.eiDelay := rfl
@[simp] theorem State.poke_fault (s : State) (x : Word) (v : Byte) : (s.poke x v).fault = s.fault := rfl
@[simp] theorem State.poke_ie (s : State) (x : Word) (v : Byte) : (s.poke x v).ie = s.ie := rfl
@[simp] theorem State.poke_iflag (s : State) (x : Word) (v : Byte) : (s.poke x v).iflag = s.iflag := rfl
@[simp] theorem State.poke_mem (s : State) (x : Word) (v : Byte) : (s.poke x v).mem = s.mem.write x.toNat v := rfl
@[simp] theorem State.poke_bootRom (s : State) (x : Word) (v : Byte) : (s.poke x v).bootRom = s.bootRom := rfl
@[simp] theorem State.poke_overlay (s : State) (x : Word) (v : Byte) : (s.poke x v).overlay = s.overlay := rfl
@[simp] theorem State.poke_timer (s : State) (x : Word) (v : Byte) : (s.poke x v).timer = s.timer := rfl
@[simp] theorem State.poke_cost (s : State) (x : Word) (v : Byte) : (s.poke x v).cost = s.cost := rfl
@[simp] theorem State.poke_params (s : State) (x : Word) (v : Byte) : (s.poke x v).params = s.params := rfl
@[simp] theorem State.poke_env (s : State) (x : Word) (v : Byte) : (s.poke x v).env = s.env := rfl
@[simp] theorem State.poke_answers (s : State) (x : Word) (v : Byte) : (s.poke x v).answers = s.answers := rfl
@[simp] theorem State.poke_draws (s : State) (x : Word) (v : Byte) : (s.poke x v).draws = s.draws := rfl

/-! ### setAFlags -/

@[simp] theorem State.setAFlags_a (s : State) (r : Byte × Flags) : (s.setAFlags r).a = r.1 := rfl
@[simp] theorem State.setAFlags_f (s : State) (r : Byte × Flags) : (s.setAFlags r).f = r.2.byte &&& 0xF0 := rfl
@[simp] theorem State.setAFlags_b (s : State) (r : Byte × Flags) : (s.setAFlags r).b = s.b := rfl
@[simp] theorem State.setAFlags_c (s : State) (r : Byte × Flags) : (s.setAFlags r).c = s.c := rfl
@[simp] theorem State.setAFlags_d (s : State) (r : Byte × Flags) : (s.setAFlags r).d = s.d := rfl
@[simp] theorem State.setAFlags_e (s : State) (r : Byte × Flags) : (s.setAFlags r).e = s.e := rfl
@[simp] theorem State.setAFlags_h (s : State) (r : Byte × Flags) : (s.setAFlags r).h = s.h := rfl
@[simp] theorem State.setAFlags_l (s : State) (r : Byte × Flags) : (s.setAFlags r).l = s.l := rfl
@[simp] theorem State.setAFlags_sp (s : State) (r : Byte × Flags) : (s.setAFlags r).sp = s.sp := rfl
@[simp] theorem State.setAFlags_pc (s : State) (r : Byte × Flags) : (s.setAFlags r).pc = s.pc := rfl
@[simp] theorem State.setAFlags_ime (s : State) (r : Byte × Flags) : (s.setAFlags r).ime = s.ime := rfl
@[simp] theorem State.setAFlags_halted (s : State) (r : Byte × Flags) : (s.setAFlags r).halted = s.halted := rfl
@[simp] theorem State.setAFlags_eiDelay (s : State) (r : Byte × Flags) : (s.setAFlags r).eiDelay = s.eiDelay := rfl
@[simp] theorem State.setAFlags_fault (s : State) (r : Byte × Flags) : (s.setAFlags r).fault = s.fault := rfl
@[simp] theorem State.setAFlags_ie (s : State) (r : Byte × Flags) : (s.setAFlags r).ie = s.ie := rfl
@[simp] theorem State.setAFlags_iflag (s : State) (r : Byte × Flags) : (s.setAFlags r).iflag = s.iflag := rfl
@[simp] theorem State.setAFlags_mem (s : State) (r : Byte × Flags) : (s.setAFlags r).mem = s.mem := rfl
@[simp] theorem State.setAFlags_bootRom (s : State) (r : Byte × Flags) : (s.setAFlags r).bootRom = s.bootRom := rfl
@[simp] theorem State.setAFlags_overlay (s : State) (r : Byte × Flags) : (s.setAFlags r).overlay = s.overlay := rfl
@[simp] theorem State.setAFlags_timer (s : State) (r : Byte × Flags) : (s.setAFlags r).timer = s.timer := rfl
@[simp] theorem State.setAFlags_cost (s : State) (r : Byte × Flags) : (s.setAFlags r).cost = s.cost := rfl
@[simp] theorem State.setAFlags_params (s : State) (r : Byte × Flags) : (s.setAFlags r).params = s.params := rfl
@[simp] theorem State.setAFlags_env (s : State) (r : Byte × Flags) : (s.setAFlags r).env = s.env := rfl
@[simp] theorem State.setAFlags_answers (s : State) (r : Byte × Flags) : (s.setAFlags r).answers = s.answers := rfl
@[simp] theorem State.setAFlags_draws (s : State) (r : Byte × Flags) : (s.setAFlags r).draws = s.draws := rfl
@[simp] theorem State.setAFlags_read (s : State) (r : Byte × Flags) (k : Word) : (s.setAFlags r).read k = s.read k := rfl

/-! ### setBc -/

@[simp] theorem State.setBc_a (s : State) (w : Word) : (s.setBc w).a = s.a := rfl
@[simp] theorem State.setBc_f (s : State) (w : Word) : (s.setBc w).f = s.f := rfl
@[simp] theorem State.setBc_b (s : State) (w : Word) : (s.setBc w).b = w.hi := rfl
@[simp] theorem State.setBc_c (s : State) (w : Word) : (s.setBc w).c = w.lo := rfl
@[simp] theorem State.setBc_d (s : State) (w : Word) : (s.setBc w).d = s.d := rfl
@[simp] theorem State.setBc_e (s : State) (w : Word) : (s.setBc w).e = s.e := rfl
@[simp] theorem State.setBc_h (s : State) (w : Word) : (s.setBc w).h = s.h := rfl
@[simp] theorem State.setBc_l (s : State) (w : Word) : (s.setBc w).l = s.l := rfl
@[simp] theorem State.setBc_sp (s : State) (w : Word) : (s.setBc w).sp = s.sp := rfl
@[simp] theorem State.setBc_pc (s : State) (w : Word) : (s.setBc w).pc = s.pc := rfl
@[simp] theorem State.setBc_ime (s : State) (w : Word) : (s.setBc w).ime = s.ime := rfl
@[simp] theorem State.setBc_halted (s : State) (w : Word) : (s.setBc w).halted = s.halted := rfl
@[simp] theorem State.setBc_eiDelay (s : State) (w : Word) : (s.setBc w).eiDelay = s.eiDelay := rfl
@[simp] theorem State.setBc_fault (s : State) (w : Word) : (s.setBc w).fault = s.fault := rfl
@[simp] theorem State.setBc_ie (s : State) (w : Word) : (s.setBc w).ie = s.ie := rfl
@[simp] theorem State.setBc_iflag (s : State) (w : Word) : (s.setBc w).iflag = s.iflag := rfl
@[simp] theorem State.setBc_mem (s : State) (w : Word) : (s.setBc w).mem = s.mem := rfl
@[simp] theorem State.setBc_bootRom (s : State) (w : Word) : (s.setBc w).bootRom = s.bootRom := rfl
@[simp] theorem State.setBc_overlay (s : State) (w : Word) : (s.setBc w).overlay = s.overlay := rfl
@[simp] theorem State.setBc_timer (s : State) (w : Word) : (s.setBc w).timer = s.timer := rfl
@[simp] theorem State.setBc_cost (s : State) (w : Word) : (s.setBc w).cost = s.cost := rfl
@[simp] theorem State.setBc_params (s : State) (w : Word) : (s.setBc w).params = s.params := rfl
@[simp] theorem State.setBc_env (s : State) (w : Word) : (s.setBc w).env = s.env := rfl
@[simp] theorem State.setBc_answers (s : State) (w : Word) : (s.setBc w).answers = s.answers := rfl
@[simp] theorem State.setBc_draws (s : State) (w : Word) : (s.setBc w).draws = s.draws := rfl
@[simp] theorem State.setBc_read (s : State) (w : Word) (k : Word) : (s.setBc w).read k = s.read k := rfl

/-! ### setDe -/

@[simp] theorem State.setDe_a (s : State) (w : Word) : (s.setDe w).a = s.a := rfl
@[simp] theorem State.setDe_f (s : State) (w : Word) : (s.setDe w).f = s.f := rfl
@[simp] theorem State.setDe_b (s : State) (w : Word) : (s.setDe w).b = s.b := rfl
@[simp] theorem State.setDe_c (s : State) (w : Word) : (s.setDe w).c = s.c := rfl
@[simp] theorem State.setDe_d (s : State) (w : Word) : (s.setDe w).d = w.hi := rfl
@[simp] theorem State.setDe_e (s : State) (w : Word) : (s.setDe w).e = w.lo := rfl
@[simp] theorem State.setDe_h (s : State) (w : Word) : (s.setDe w).h = s.h := rfl
@[simp] theorem State.setDe_l (s : State) (w : Word) : (s.setDe w).l = s.l := rfl
@[simp] theorem State.setDe_sp (s : State) (w : Word) : (s.setDe w).sp = s.sp := rfl
@[simp] theorem State.setDe_pc (s : State) (w : Word) : (s.setDe w).pc = s.pc := rfl
@[simp] theorem State.setDe_ime (s : State) (w : Word) : (s.setDe w).ime = s.ime := rfl
@[simp] theorem State.setDe_halted (s : State) (w : Word) : (s.setDe w).halted = s.halted := rfl
@[simp] theorem State.setDe_eiDelay (s : State) (w : Word) : (s.setDe w).eiDelay = s.eiDelay := rfl
@[simp] theorem State.setDe_fault (s : State) (w : Word) : (s.setDe w).fault = s.fault := rfl
@[simp] theorem State.setDe_ie (s : State) (w : Word) : (s.setDe w).ie = s.ie := rfl
@[simp] theorem State.setDe_iflag (s : State) (w : Word) : (s.setDe w).iflag = s.iflag := rfl
@[simp] theorem State.setDe_mem (s : State) (w : Word) : (s.setDe w).mem = s.mem := rfl
@[simp] theorem State.setDe_bootRom (s : State) (w : Word) : (s.setDe w).bootRom = s.bootRom := rfl
@[simp] theorem State.setDe_overlay (s : State) (w : Word) : (s.setDe w).overlay = s.overlay := rfl
@[simp] theorem State.setDe_timer (s : State) (w : Word) : (s.setDe w).timer = s.timer := rfl
@[simp] theorem State.setDe_cost (s : State) (w : Word) : (s.setDe w).cost = s.cost := rfl
@[simp] theorem State.setDe_params (s : State) (w : Word) : (s.setDe w).params = s.params := rfl
@[simp] theorem State.setDe_env (s : State) (w : Word) : (s.setDe w).env = s.env := rfl
@[simp] theorem State.setDe_answers (s : State) (w : Word) : (s.setDe w).answers = s.answers := rfl
@[simp] theorem State.setDe_draws (s : State) (w : Word) : (s.setDe w).draws = s.draws := rfl
@[simp] theorem State.setDe_read (s : State) (w : Word) (k : Word) : (s.setDe w).read k = s.read k := rfl

/-! ### setHl -/

@[simp] theorem State.setHl_a (s : State) (w : Word) : (s.setHl w).a = s.a := rfl
@[simp] theorem State.setHl_f (s : State) (w : Word) : (s.setHl w).f = s.f := rfl
@[simp] theorem State.setHl_b (s : State) (w : Word) : (s.setHl w).b = s.b := rfl
@[simp] theorem State.setHl_c (s : State) (w : Word) : (s.setHl w).c = s.c := rfl
@[simp] theorem State.setHl_d (s : State) (w : Word) : (s.setHl w).d = s.d := rfl
@[simp] theorem State.setHl_e (s : State) (w : Word) : (s.setHl w).e = s.e := rfl
@[simp] theorem State.setHl_h (s : State) (w : Word) : (s.setHl w).h = w.hi := rfl
@[simp] theorem State.setHl_l (s : State) (w : Word) : (s.setHl w).l = w.lo := rfl
@[simp] theorem State.setHl_sp (s : State) (w : Word) : (s.setHl w).sp = s.sp := rfl
@[simp] theorem State.setHl_pc (s : State) (w : Word) : (s.setHl w).pc = s.pc := rfl
@[simp] theorem State.setHl_ime (s : State) (w : Word) : (s.setHl w).ime = s.ime := rfl
@[simp] theorem State.setHl_halted (s : State) (w : Word) : (s.setHl w).halted = s.halted := rfl
@[simp] theorem State.setHl_eiDelay (s : State) (w : Word) : (s.setHl w).eiDelay = s.eiDelay := rfl
@[simp] theorem State.setHl_fault (s : State) (w : Word) : (s.setHl w).fault = s.fault := rfl
@[simp] theorem State.setHl_ie (s : State) (w : Word) : (s.setHl w).ie = s.ie := rfl
@[simp] theorem State.setHl_iflag (s : State) (w : Word) : (s.setHl w).iflag = s.iflag := rfl
@[simp] theorem State.setHl_mem (s : State) (w : Word) : (s.setHl w).mem = s.mem := rfl
@[simp] theorem State.setHl_bootRom (s : State) (w : Word) : (s.setHl w).bootRom = s.bootRom := rfl
@[simp] theorem State.setHl_overlay (s : State) (w : Word) : (s.setHl w).overlay = s.overlay := rfl
@[simp] theorem State.setHl_timer (s : State) (w : Word) : (s.setHl w).timer = s.timer := rfl
@[simp] theorem State.setHl_cost (s : State) (w : Word) : (s.setHl w).cost = s.cost := rfl
@[simp] theorem State.setHl_params (s : State) (w : Word) : (s.setHl w).params = s.params := rfl
@[simp] theorem State.setHl_env (s : State) (w : Word) : (s.setHl w).env = s.env := rfl
@[simp] theorem State.setHl_answers (s : State) (w : Word) : (s.setHl w).answers = s.answers := rfl
@[simp] theorem State.setHl_draws (s : State) (w : Word) : (s.setHl w).draws = s.draws := rfl
@[simp] theorem State.setHl_read (s : State) (w : Word) (k : Word) : (s.setHl w).read k = s.read k := rfl

/-! ### setAf -/

@[simp] theorem State.setAf_a (s : State) (w : Word) : (s.setAf w).a = w.hi := rfl
@[simp] theorem State.setAf_f (s : State) (w : Word) : (s.setAf w).f = w.lo &&& 0xF0 := rfl
@[simp] theorem State.setAf_b (s : State) (w : Word) : (s.setAf w).b = s.b := rfl
@[simp] theorem State.setAf_c (s : State) (w : Word) : (s.setAf w).c = s.c := rfl
@[simp] theorem State.setAf_d (s : State) (w : Word) : (s.setAf w).d = s.d := rfl
@[simp] theorem State.setAf_e (s : State) (w : Word) : (s.setAf w).e = s.e := rfl
@[simp] theorem State.setAf_h (s : State) (w : Word) : (s.setAf w).h = s.h := rfl
@[simp] theorem State.setAf_l (s : State) (w : Word) : (s.setAf w).l = s.l := rfl
@[simp] theorem State.setAf_sp (s : State) (w : Word) : (s.setAf w).sp = s.sp := rfl
@[simp] theorem State.setAf_pc (s : State) (w : Word) : (s.setAf w).pc = s.pc := rfl
@[simp] theorem State.setAf_ime (s : State) (w : Word) : (s.setAf w).ime = s.ime := rfl
@[simp] theorem State.setAf_halted (s : State) (w : Word) : (s.setAf w).halted = s.halted := rfl
@[simp] theorem State.setAf_eiDelay (s : State) (w : Word) : (s.setAf w).eiDelay = s.eiDelay := rfl
@[simp] theorem State.setAf_fault (s : State) (w : Word) : (s.setAf w).fault = s.fault := rfl
@[simp] theorem State.setAf_ie (s : State) (w : Word) : (s.setAf w).ie = s.ie := rfl
@[simp] theorem State.setAf_iflag (s : State) (w : Word) : (s.setAf w).iflag = s.iflag := rfl
@[simp] theorem State.setAf_mem (s : State) (w : Word) : (s.setAf w).mem = s.mem := rfl
@[simp] theorem State.setAf_bootRom (s : State) (w : Word) : (s.setAf w).bootRom = s.bootRom := rfl
@[simp] theorem State.setAf_overlay (s : State) (w : Word) : (s.setAf w).overlay = s.overlay := rfl
@[simp] theorem State.setAf_timer (s : State) (w : Word) : (s.setAf w).timer = s.timer := rfl
@[simp] theorem State.setAf_cost (s : State) (w : Word) : (s.setAf w).cost = s.cost := rfl
@[simp] theorem State.setAf_params (s : State) (w : Word) : (s.setAf w).params = s.params := rfl
@[simp] theorem State.setAf_env (s : State) (w : Word) : (s.setAf w).env = s.env := rfl
@[simp] theorem State.setAf_answers (s : State) (w : Word) : (s.setAf w).answers = s.answers := rfl
@[simp] theorem State.setAf_draws (s : State) (w : Word) : (s.setAf w).draws = s.draws := rfl
@[simp] theorem State.setAf_read (s : State) (w : Word) (k : Word) : (s.setAf w).read k = s.read k := rfl

/-! ### setReg -/

@[simp] theorem State.setReg_f (s : State) (r : Reg8) (v : Byte) : (s.setReg r v).f = s.f := by cases r <;> rfl
@[simp] theorem State.setReg_sp (s : State) (r : Reg8) (v : Byte) : (s.setReg r v).sp = s.sp := by cases r <;> rfl
@[simp] theorem State.setReg_pc (s : State) (r : Reg8) (v : Byte) : (s.setReg r v).pc = s.pc := by cases r <;> rfl
@[simp] theorem State.setReg_ime (s : State) (r : Reg8) (v : Byte) : (s.setReg r v).ime = s.ime := by cases r <;> rfl
@[simp] theorem State.setReg_halted (s : State) (r : Reg8) (v : Byte) : (s.setReg r v).halted = s.halted := by cases r <;> rfl
@[simp] theorem State.setReg_eiDelay (s : State) (r : Reg8) (v : Byte) : (s.setReg r v).eiDelay = s.eiDelay := by cases r <;> rfl
@[simp] theorem State.setReg_fault (s : State) (r : Reg8) (v : Byte) : (s.setReg r v).fault = s.fault := by cases r <;> rfl
@[simp] theorem State.setReg_ie (s : State) (r : Reg8) (v : Byte) : (s.setReg r v).ie = s.ie := by cases r <;> rfl
@[simp] theorem State.setReg_iflag (s : State) (r : Reg8) (v : Byte) : (s.setReg r v).iflag = s.iflag := by cases r <;> rfl
@[simp] theorem State.setReg_mem (s : State) (r : Reg8) (v : Byte) : (s.setReg r v).mem = s.mem := by cases r <;> rfl
@[simp] theorem State.setReg_bootRom (s : State) (r : Reg8) (v : Byte) : (s.setReg r v).bootRom = s.bootRom := by cases r <;> rfl
@[simp] theorem State.setReg_overlay (s : State) (r : Reg8) (v : Byte) : (s.setReg r v).overlay = s.overlay := by cases r <;> rfl
@[simp] theorem State.setReg_timer (s : State) (r : Reg8) (v : Byte) : (s.setReg r v).timer = s.timer := by cases r <;> rfl
@[simp] theorem State.setReg_cost (s : State) (r : Reg8) (v : Byte) : (s.setReg r v).cost = s.cost := by cases r <;> rfl
@[simp] theorem State.setReg_params (s : State) (r : Reg8) (v : Byte) : (s.setReg r v).params = s.params := by cases r <;> rfl
@[simp] theorem State.setReg_env (s : State) (r : Reg8) (v : Byte) : (s.setReg r v).env = s.env := by cases r <;> rfl
@[simp] theorem State.setReg_answers (s : State) (r : Reg8) (v : Byte) : (s.setReg r v).answers = s.answers := by cases r <;> rfl
@[simp] theorem State.setReg_draws (s : State) (r : Reg8) (v : Byte) : (s.setReg r v).draws = s.draws := by cases r <;> rfl
@[simp] theorem State.setReg_read (s : State) (r : Reg8) (v : Byte) (k : Word) : (s.setReg r v).read k = s.read k := by cases r <;> rfl

/-! ### setPairSp -/

@[simp] theorem State.setPairSp_a (s : State) (r : PairSp) (v : Word) : (s.setPairSp r v).a = s.a := by cases r <;> rfl
@[simp] theorem State.setPairSp_f (s : State) (r : PairSp) (v : Word) : (s.setPairSp r v).f = s.f := by cases r <;> rfl
@[simp] theorem State.setPairSp_pc (s : State) (r : PairSp) (v : Word) : (s.setPairSp r v).pc = s.pc := by cases r <;> rfl
@[simp] theorem State.setPairSp_ime (s : State) (r : PairSp) (v : Word) : (s.setPairSp r v).ime = s.ime := by cases r <;> rfl
@[simp] theorem State.setPairSp_halted (s : State) (r : PairSp) (v : Word) : (s.setPairSp r v).halted = s.halted := by cases r <;> rfl
@[simp] theorem State.setPairSp_eiDelay (s : State) (r : PairSp) (v : Word) : (s.setPairSp r v).eiDelay = s.eiDelay := by cases r <;> rfl
@[simp] theorem State.setPairSp_fault (s : State) (r : PairSp) (v : Word) : (s.setPairSp r v).fault = s.fault := by cases r <;> rfl
@[simp] theorem State.setPairSp_ie (s : State) (r : PairSp) (v : Word) : (s.setPairSp r v).ie = s.ie := by cases r <;> rfl
@[simp] theorem State.setPairSp_iflag (s : State) (r : PairSp) (v : Word) : (s.setPairSp r v).iflag = s.iflag := by cases r <;> rfl
@[simp] theorem State.setPairSp_mem (s : State) (r : PairSp) (v : Word) : (s.setPairSp r v).mem = s.mem := by cases r <;> rfl
@[simp] theorem State.setPairSp_bootRom (s : State) (r : PairSp) (v : Word) : (s.setPairSp r v).bootRom = s.bootRom := by cases r <;> rfl
@[simp] theorem State.setPairSp_overlay (s : State) (r : PairSp) (v : Word) : (s.setPairSp r v).overlay = s.overlay := by cases r <;> rfl
@[simp] theorem State.setPairSp_timer (s : State) (r : PairSp) (v : Word) : (s.setPairSp r v).timer = s.timer := by cases r <;> rfl
@[simp] theorem State.setPairSp_cost (s : State) (r : PairSp) (v : Word) : (s.setPairSp r v).cost = s.cost := by cases r <;> rfl
@[simp] theorem State.setPairSp_params (s : State) (r : PairSp) (v : Word) : (s.setPairSp r v).params = s.params := by cases r <;> rfl
@[simp] theorem State.setPairSp_env (s : State) (r : PairSp) (v : Word) : (s.setPairSp r v).env = s.env := by cases r <;> rfl
@[simp] theorem State.setPairSp_answers (s : State) (r : PairSp) (v : Word) : (s.setPairSp r v).answers = s.answers := by cases r <;> rfl
@[simp] theorem State.setPairSp_draws (s : State) (r : PairSp) (v : Word) : (s.setPairSp r v).draws = s.draws := by cases r <;> rfl
@[simp] theorem State.setPairSp_read (s : State) (r : PairSp) (v : Word) (k : Word) : (s.setPairSp r v).read k = s.read k := by cases r <;> rfl

/-! ### setPairAf -/

@[simp] theorem State.setPairAf_sp (s : State) (r : PairAf) (v : Word) : (s.setPairAf r v).sp = s.sp := by cases r <;> rfl
@[simp] theorem State.setPairAf_pc (s : State) (r : PairAf) (v : Word) : (s.setPairAf r v).pc = s.pc := by cases r <;> rfl
@[simp] theorem State.setPairAf_ime (s : State) (r : PairAf) (v : Word) : (s.setPairAf r v).ime = s.ime := by cases r <;> rfl
@[simp] theorem State.setPairAf_halted (s : State) (r : PairAf) (v : Word) : (s.setPairAf r v).halted = s.halted := by cases r <;> rfl
@[simp] theorem State.setPairAf_eiDelay (s : State) (r : PairAf) (v : Word) : (s.setPairAf r v).eiDelay = s.eiDelay := by cases r <;> rfl
@[simp] theorem State.setPairAf_fault (s : State) (r : PairAf) (v : Word) : (s.setPairAf r v).fault = s.fault := by cases r <;> rfl
@[simp] theorem State.setPairAf_ie (s : State) (r : PairAf) (v : Word) : (s.setPairAf r v).ie = s.ie := by cases r <;> rfl
@[simp] theorem State.setPairAf_iflag (s : State) (r : PairAf) (v : Word) : (s.setPairAf r v).iflag = s.iflag := by cases r <;> rfl
@[simp] theorem State.setPairAf_mem (s : State) (r : PairAf) (v : Word) : (s.setPairAf r v).mem = s.mem := by cases r <;> rfl
@[simp] theorem State.setPairAf_bootRom (s : State) (r : PairAf) (v : Word) : (s.setPairAf r v).bootRom = s.bootRom := by cases r <;> rfl
@[simp] theorem State.setPairAf_overlay (s : State) (r : PairAf) (v : Word) : (s.setPairAf r v).overlay = s.overlay := by cases r <;> rfl
@[simp] theorem State.setPairAf_timer (s : State) (r : PairAf) (v : Word) : (s.setPairAf r v).timer = s.timer := by cases r <;> rfl
@[simp] theorem State.setPairAf_cost (s : State) (r : PairAf) (v : Word) : (s.setPairAf r v).cost = s.cost := by cases r <;> rfl
@[simp] theorem State.setPairAf_params (s : State) (r : PairAf) (v : Word) : (s.setPairAf r v).params = s.params := by cases r <;> rfl
@[simp] theorem State.setPairAf_env (s : State) (r : PairAf) (v : Word) : (s.setPairAf r v).env = s.env := by cases r <;> rfl
@[simp] theorem State.setPairAf_answers (s : State) (r : PairAf) (v : Word) : (s.setPairAf r v).answers = s.answers := by cases r <;> rfl
@[simp] theorem State.setPairAf_draws (s : State) (r : PairAf) (v : Word) : (s.setPairAf r v).draws = s.draws := by cases r <;> rfl
@[simp] theorem State.setPairAf_read (s : State) (r : PairAf) (v : Word) (k : Word) : (s.setPairAf r v).read k = s.read k := by cases r <;> rfl

/-! ### What the readers see -/

@[simp] theorem State.reg_setReg (s : State) (r q : Reg8) (v : Byte) :
    (s.setReg r v).reg q = if q = r then v else s.reg q := by cases r <;> cases q <;> rfl

@[simp] theorem State.reg_setPc (s : State) (r : Reg8) (w : Word) : (s.setPc w).reg r = s.reg r := by cases r <;> rfl
@[simp] theorem State.reg_setSp (s : State) (r : Reg8) (w : Word) : (s.setSp w).reg r = s.reg r := by cases r <;> rfl
@[simp] theorem State.reg_charge (s : State) (r : Reg8) (n : Nat) : (s.charge n).reg r = s.reg r := by cases r <;> rfl
@[simp] theorem State.reg_setF (s : State) (r : Reg8) (v : Byte) : (s.setF v).reg r = s.reg r := by cases r <;> rfl
@[simp] theorem State.reg_setFlags (s : State) (r : Reg8) (fl : Flags) : (s.setFlags fl).reg r = s.reg r := by cases r <;> rfl
@[simp] theorem State.reg_setAFlags (s : State) (r : Reg8) (v : Byte × Flags) :
    (s.setAFlags v).reg r = if r = .a then v.1 else s.reg r := by cases r <;> rfl

@[simp] theorem State.hl_charge (s : State) (n : Nat) : (s.charge n).hl = s.hl := rfl
@[simp] theorem State.hl_setFlags (s : State) (fl : Flags) : (s.setFlags fl).hl = s.hl := rfl

/-- The high byte of a word made of two bytes. -/
@[simp] theorem Word_hi_ofBytes (x y : Byte) : (Word.ofBytes x y).hi = x := by
  ext i hi
  simp only [Word.hi, Word.ofBytes, BitVec.getElem_setWidth, BitVec.getLsbD_ushiftRight]
  rw [BitVec.getLsbD_append]
  simp [BitVec.getLsbD_eq_getElem hi]

/-- The low byte of a word made of two bytes. -/
@[simp] theorem Word_lo_ofBytes (x y : Byte) : (Word.ofBytes x y).lo = y := by
  ext i hi
  simp only [Word.lo, Word.ofBytes, BitVec.getElem_setWidth]
  rw [BitVec.getLsbD_append]
  simp [hi]

/-- A word is made of its two bytes. -/
@[simp] theorem Word_ofBytes_hi_lo (w : Word) : Word.ofBytes w.hi w.lo = w := by
  apply BitVec.eq_of_toNat_eq
  simp only [Word.ofBytes, Word.hi, Word.lo, BitVec.toNat_append, BitVec.toNat_setWidth, BitVec.toNat_ushiftRight]
  have := w.isLt
  rw [← Nat.shiftLeft_add_eq_or_of_lt (by omega), Nat.shiftLeft_eq, Nat.shiftRight_eq_div_pow]
  omega

theorem Word_ofBytes_toNat (x y : Byte) : (Word.ofBytes x y).toNat = x.toNat * 256 + y.toNat := by
  have := y.isLt
  simp only [Word.ofBytes, BitVec.toNat_append]
  rw [← Nat.shiftLeft_add_eq_or_of_lt (by omega), Nat.shiftLeft_eq]

/-- The flags are what was written. -/
@[simp] theorem State.flags_setFlags (s : State) (fl : Flags) : (s.setFlags fl).flags = fl := by
  obtain ⟨z, n, h, c⟩ := fl
  cases z <;> cases n <;> cases h <;> cases c <;> simp [State.flags, State.setFlags, State.setF, Flags.byte]

/-- Masking F twice is masking it once (R105). -/
theorem mask_mask (v : Byte) : (v &&& 0xF0) &&& 0xF0 = v &&& 0xF0 := by
  rw [BitVec.and_assoc]; congr 1

/-- The byte of the flags has a zero low nibble (R104). -/
@[simp] theorem Flags.byte_mask (fl : Flags) : fl.byte &&& 240#8 = fl.byte := by
  obtain ⟨z, n, h, c⟩ := fl
  cases z <;> cases n <;> cases h <;> cases c <;> decide

/-- Its low nibble, said the other way. -/
@[simp] theorem Flags.byte_low (fl : Flags) : fl.byte &&& 15#8 = 0#8 := by
  obtain ⟨z, n, h, c⟩ := fl
  cases z <;> cases n <;> cases h <;> cases c <;> decide

/-- F reads back as the flags' byte. -/
@[simp] theorem State.regF_setFlags (s : State) (fl : Flags) : (s.setFlags fl).regF = fl.byte := by
  simp [State.regF, State.setFlags, State.setF]

/-- F reads as the byte of its four flags, with bits 3:0 zero (R104, R105). -/
theorem State.regF_eq_byte (s : State) : s.regF = s.flags.byte := by
  have h : ∀ f : Byte, f &&& 0xF0 =
      (if f.getLsbD 7 then 0x80 else 0) ||| (if f.getLsbD 6 then 0x40 else 0) |||
      (if f.getLsbD 5 then 0x20 else 0) ||| (if f.getLsbD 4 then 0x10 else 0) := by decide
  exact h s.f

end Sys2Proof.Machine
end

