-- ==== Sys2Proof/Laws/Bus.lean ====
section
/-! SUPPORT. The laws of the bus: what a read and a store leave unchanged, what a read after them gives, and that they, the devices and
the timer keep the invariant's parts. -/

namespace Sys2Proof.Machine

/-! ### What a read, a stored byte, the OAM copy and a write leave unchanged -/

@[simp] theorem State.afterRead_a (s : State) (x : Word) : (s.afterRead x).a = s.a := by
  unfold State.afterRead; split <;> [split; skip] <;> rfl

@[simp] theorem State.afterRead_f (s : State) (x : Word) : (s.afterRead x).f = s.f := by
  unfold State.afterRead; split <;> [split; skip] <;> rfl

@[simp] theorem State.afterRead_b (s : State) (x : Word) : (s.afterRead x).b = s.b := by
  unfold State.afterRead; split <;> [split; skip] <;> rfl

@[simp] theorem State.afterRead_c (s : State) (x : Word) : (s.afterRead x).c = s.c := by
  unfold State.afterRead; split <;> [split; skip] <;> rfl

@[simp] theorem State.afterRead_d (s : State) (x : Word) : (s.afterRead x).d = s.d := by
  unfold State.afterRead; split <;> [split; skip] <;> rfl

@[simp] theorem State.afterRead_e (s : State) (x : Word) : (s.afterRead x).e = s.e := by
  unfold State.afterRead; split <;> [split; skip] <;> rfl

@[simp] theorem State.afterRead_h (s : State) (x : Word) : (s.afterRead x).h = s.h := by
  unfold State.afterRead; split <;> [split; skip] <;> rfl

@[simp] theorem State.afterRead_l (s : State) (x : Word) : (s.afterRead x).l = s.l := by
  unfold State.afterRead; split <;> [split; skip] <;> rfl

@[simp] theorem State.afterRead_sp (s : State) (x : Word) : (s.afterRead x).sp = s.sp := by
  unfold State.afterRead; split <;> [split; skip] <;> rfl

@[simp] theorem State.afterRead_pc (s : State) (x : Word) : (s.afterRead x).pc = s.pc := by
  unfold State.afterRead; split <;> [split; skip] <;> rfl

@[simp] theorem State.afterRead_ime (s : State) (x : Word) : (s.afterRead x).ime = s.ime := by
  unfold State.afterRead; split <;> [split; skip] <;> rfl

@[simp] theorem State.afterRead_halted (s : State) (x : Word) : (s.afterRead x).halted = s.halted := by
  unfold State.afterRead; split <;> [split; skip] <;> rfl

@[simp] theorem State.afterRead_eiDelay (s : State) (x : Word) : (s.afterRead x).eiDelay = s.eiDelay := by
  unfold State.afterRead; split <;> [split; skip] <;> rfl

@[simp] theorem State.afterRead_fault (s : State) (x : Word) : (s.afterRead x).fault = s.fault := by
  unfold State.afterRead; split <;> [split; skip] <;> rfl

@[simp] theorem State.afterRead_bootRom (s : State) (x : Word) : (s.afterRead x).bootRom = s.bootRom := by
  unfold State.afterRead; split <;> [split; skip] <;> rfl

@[simp] theorem State.afterRead_cost (s : State) (x : Word) : (s.afterRead x).cost = s.cost := by
  unfold State.afterRead; split <;> [split; skip] <;> rfl

@[simp] theorem State.afterRead_params (s : State) (x : Word) : (s.afterRead x).params = s.params := by
  unfold State.afterRead; split <;> [split; skip] <;> rfl

@[simp] theorem State.afterRead_env (s : State) (x : Word) : (s.afterRead x).env = s.env := by
  unfold State.afterRead; split <;> [split; skip] <;> rfl

@[simp] theorem State.afterRead_ie (s : State) (x : Word) : (s.afterRead x).ie = s.ie := by
  unfold State.afterRead; split <;> [split; skip] <;> rfl

@[simp] theorem State.afterRead_iflag (s : State) (x : Word) : (s.afterRead x).iflag = s.iflag := by
  unfold State.afterRead; split <;> [split; skip] <;> rfl

@[simp] theorem State.afterRead_mem (s : State) (x : Word) : (s.afterRead x).mem = s.mem := by
  unfold State.afterRead; split <;> [split; skip] <;> rfl

@[simp] theorem State.afterRead_overlay (s : State) (x : Word) : (s.afterRead x).overlay = s.overlay := by
  unfold State.afterRead; split <;> [split; skip] <;> rfl

@[simp] theorem State.afterRead_timer (s : State) (x : Word) : (s.afterRead x).timer = s.timer := by
  unfold State.afterRead; split <;> [split; skip] <;> rfl

@[simp] theorem State.reg_afterRead (s : State) (x : Word) (r : Reg8) : (s.afterRead x).reg r = s.reg r := by
  cases r <;> simp [State.reg]

@[simp] theorem State.hl_afterRead (s : State) (x : Word) : (s.afterRead x).hl = s.hl := by simp [State.hl]

@[simp] theorem State.flags_afterRead (s : State) (x : Word) : (s.afterRead x).flags = s.flags := by simp [State.flags]

/-- A read of an address that is not scripted changes nothing. -/
theorem State.afterRead_of_ne {s : State} {x : Word} (h : owner s.params x ≠ .scripted) : s.afterRead x = s := by
  unfold State.afterRead; split
  · contradiction
  · rfl

/-- A read changes what an unscripted address reads as nowhere. -/
theorem State.read_afterRead {s : State} {k : Word} (hk : owner s.params k ≠ .scripted) (x : Word) :
    (s.afterRead x).read k = s.read k := by
  unfold owner at hk
  simp only [State.read, State.afterRead_params, State.afterRead_overlay, State.afterRead_mem, State.afterRead_bootRom,
    State.afterRead_ie, State.afterRead_iflag, State.afterRead_timer]
  split <;> first | rfl | contradiction

/-- A read does not look at SP. -/
theorem State.afterRead_setSp (s : State) (w x : Word) : (s.setSp w).afterRead x = (s.afterRead x).setSp w := by
  unfold State.afterRead
  simp only [State.setSp_params, State.setSp_answers]
  split <;> [split; skip] <;> rfl

theorem memBacked_of_owner {p : Params} {x : Word} {o : Owner} (h : ownerAt p x = o)
    (ho : o = .rom ∨ o = .vram ∨ o = .extRam ∨ o = .workRam ∨ o = .oam ∨ o = .device ∨ o = .highRam ∨ o = .dmaTrigger ∨
      o = .bootDisable) : memBacked p x = true := by
  unfold memBacked; subst h; rcases ho with h | h | h | h | h | h | h | h | h <;> rw [h]

/-- Everything one stored byte can do, the OAM copy apart: `P` holds of the result if it holds of each of these. -/
theorem State.store_cases {P : State → Prop} (s : State) (x : Word) (v : Byte)
    (same : owner s.params x = .rom ∨ owner s.params x = .openBus ∨ owner s.params x = .scripted → P s)
    (poke : memBacked s.params (resolve s.params x) = true → owner s.params x ≠ .bootDisable → P (s.poke (resolve s.params x) v))
    (ie : owner s.params x = .interruptEnable → P { s with ie := v })
    (iflag : owner s.params x = .interruptFlag → P { s with iflag := v })
    (div : owner s.params x = .div → P { s with timer := s.timer.resetDiv })
    (tima : owner s.params x = .tima → P { s with timer := { s.timer with tima := v } })
    (tma : owner s.params x = .tma → P { s with timer := { s.timer with tma := v } })
    (tac : owner s.params x = .tac → P { s with timer := s.timer.writeTac v })
    (boot : owner s.params x = .bootDisable → P { s.poke (resolve s.params x) v with overlay := false }) : P (s.store x v) := by
  unfold owner at *
  unfold State.store
  simp only
  split
  · exact same (.inl ‹_›)
  · exact same (.inr (.inl ‹_›))
  · exact same (.inr (.inr ‹_›))
  · exact poke (memBacked_of_owner ‹_› (by simp)) (by simp_all)
  · exact poke (memBacked_of_owner ‹_› (by simp)) (by simp_all)
  · exact poke (memBacked_of_owner ‹_› (by simp)) (by simp_all)
  · exact poke (memBacked_of_owner ‹_› (by simp)) (by simp_all)
  · exact poke (memBacked_of_owner ‹_› (by simp)) (by simp_all)
  · exact poke (memBacked_of_owner ‹_› (by simp)) (by simp_all)
  · exact poke (memBacked_of_owner ‹_› (by simp)) (by simp_all)
  · exact ie ‹_›
  · exact iflag ‹_›
  · exact div ‹_›
  · exact tima ‹_›
  · exact tma ‹_›
  · exact tac ‹_›
  · exact boot ‹_›

@[simp] theorem State.store_a (s : State) (x : Word) (v : Byte) : (s.store x v).a = s.a := by
  apply State.store_cases (P := fun t => t.a = s.a) <;> intros <;> simp

@[simp] theorem State.store_f (s : State) (x : Word) (v : Byte) : (s.store x v).f = s.f := by
  apply State.store_cases (P := fun t => t.f = s.f) <;> intros <;> simp

@[simp] theorem State.store_b (s : State) (x : Word) (v : Byte) : (s.store x v).b = s.b := by
  apply State.store_cases (P := fun t => t.b = s.b) <;> intros <;> simp

@[simp] theorem State.store_c (s : State) (x : Word) (v : Byte) : (s.store x v).c = s.c := by
  apply State.store_cases (P := fun t => t.c = s.c) <;> intros <;> simp

@[simp] theorem State.store_d (s : State) (x : Word) (v : Byte) : (s.store x v).d = s.d := by
  apply State.store_cases (P := fun t => t.d = s.d) <;> intros <;> simp

@[simp] theorem State.store_e (s : State) (x : Word) (v : Byte) : (s.store x v).e = s.e := by
  apply State.store_cases (P := fun t => t.e = s.e) <;> intros <;> simp

@[simp] theorem State.store_h (s : State) (x : Word) (v : Byte) : (s.store x v).h = s.h := by
  apply State.store_cases (P := fun t => t.h = s.h) <;> intros <;> simp

@[simp] theorem State.store_l (s : State) (x : Word) (v : Byte) : (s.store x v).l = s.l := by
  apply State.store_cases (P := fun t => t.l = s.l) <;> intros <;> simp

@[simp] theorem State.store_sp (s : State) (x : Word) (v : Byte) : (s.store x v).sp = s.sp := by
  apply State.store_cases (P := fun t => t.sp = s.sp) <;> intros <;> simp

@[simp] theorem State.store_pc (s : State) (x : Word) (v : Byte) : (s.store x v).pc = s.pc := by
  apply State.store_cases (P := fun t => t.pc = s.pc) <;> intros <;> simp

@[simp] theorem State.store_ime (s : State) (x : Word) (v : Byte) : (s.store x v).ime = s.ime := by
  apply State.store_cases (P := fun t => t.ime = s.ime) <;> intros <;> simp

@[simp] theorem State.store_halted (s : State) (x : Word) (v : Byte) : (s.store x v).halted = s.halted := by
  apply State.store_cases (P := fun t => t.halted = s.halted) <;> intros <;> simp

@[simp] theorem State.store_eiDelay (s : State) (x : Word) (v : Byte) : (s.store x v).eiDelay = s.eiDelay := by
  apply State.store_cases (P := fun t => t.eiDelay = s.eiDelay) <;> intros <;> simp

@[simp] theorem State.store_fault (s : State) (x : Word) (v : Byte) : (s.store x v).fault = s.fault := by
  apply State.store_cases (P := fun t => t.fault = s.fault) <;> intros <;> simp

@[simp] theorem State.store_bootRom (s : State) (x : Word) (v : Byte) : (s.store x v).bootRom = s.bootRom := by
  apply State.store_cases (P := fun t => t.bootRom = s.bootRom) <;> intros <;> simp

@[simp] theorem State.store_cost (s : State) (x : Word) (v : Byte) : (s.store x v).cost = s.cost := by
  apply State.store_cases (P := fun t => t.cost = s.cost) <;> intros <;> simp

@[simp] theorem State.store_params (s : State) (x : Word) (v : Byte) : (s.store x v).params = s.params := by
  apply State.store_cases (P := fun t => t.params = s.params) <;> intros <;> simp

@[simp] theorem State.store_env (s : State) (x : Word) (v : Byte) : (s.store x v).env = s.env := by
  apply State.store_cases (P := fun t => t.env = s.env) <;> intros <;> simp

@[simp] theorem State.store_answers (s : State) (x : Word) (v : Byte) : (s.store x v).answers = s.answers := by
  apply State.store_cases (P := fun t => t.answers = s.answers) <;> intros <;> simp

@[simp] theorem State.store_draws (s : State) (x : Word) (v : Byte) : (s.store x v).draws = s.draws := by
  apply State.store_cases (P := fun t => t.draws = s.draws) <;> intros <;> simp

/-- What every read and every stored byte keep, the OAM copy keeps. -/
theorem State.dmaCopy_induct {P : State → Prop} (hread : ∀ t x, P t → P (t.afterRead x)) (hstore : ∀ t x v, P t → P (t.store x v))
    {s : State} (h : P s) (src : Byte) (n : Nat) : P (State.dmaCopy src n s) := by
  induction n with
  | zero => exact h
  | succ n ih => exact hstore _ _ _ (hread _ _ ih)

/-- And so does a write. -/
theorem State.write_induct {P : State → Prop} (hread : ∀ t x, P t → P (t.afterRead x)) (hstore : ∀ t x v, P t → P (t.store x v))
    {s : State} (h : P s) (x : Word) (v : Byte) : P (s.write x v) := by
  unfold State.write
  split
  · exact State.dmaCopy_induct hread hstore (hstore s x v h) v 160
  · exact hstore s x v h

/-- A write is a stored byte, but at the trigger of the OAM copy. -/
theorem State.write_eq_store {s : State} {x : Word} (h : owner s.params x ≠ .dmaTrigger) (v : Byte) : s.write x v = s.store x v := by
  unfold State.write; split
  · contradiction
  · rfl

@[simp] theorem State.write_a (s : State) (x : Word) (v : Byte) : (s.write x v).a = s.a :=
  State.write_induct (P := fun t => t.a = s.a) (fun t y h => (State.afterRead_a t y).trans h) (fun t y w h => (State.store_a t y w).trans h) rfl x v

@[simp] theorem State.write_f (s : State) (x : Word) (v : Byte) : (s.write x v).f = s.f :=
  State.write_induct (P := fun t => t.f = s.f) (fun t y h => (State.afterRead_f t y).trans h) (fun t y w h => (State.store_f t y w).trans h) rfl x v

@[simp] theorem State.write_b (s : State) (x : Word) (v : Byte) : (s.write x v).b = s.b :=
  State.write_induct (P := fun t => t.b = s.b) (fun t y h => (State.afterRead_b t y).trans h) (fun t y w h => (State.store_b t y w).trans h) rfl x v

@[simp] theorem State.write_c (s : State) (x : Word) (v : Byte) : (s.write x v).c = s.c :=
  State.write_induct (P := fun t => t.c = s.c) (fun t y h => (State.afterRead_c t y).trans h) (fun t y w h => (State.store_c t y w).trans h) rfl x v

@[simp] theorem State.write_d (s : State) (x : Word) (v : Byte) : (s.write x v).d = s.d :=
  State.write_induct (P := fun t => t.d = s.d) (fun t y h => (State.afterRead_d t y).trans h) (fun t y w h => (State.store_d t y w).trans h) rfl x v

@[simp] theorem State.write_e (s : State) (x : Word) (v : Byte) : (s.write x v).e = s.e :=
  State.write_induct (P := fun t => t.e = s.e) (fun t y h => (State.afterRead_e t y).trans h) (fun t y w h => (State.store_e t y w).trans h) rfl x v

@[simp] theorem State.write_h (s : State) (x : Word) (v : Byte) : (s.write x v).h = s.h :=
  State.write_induct (P := fun t => t.h = s.h) (fun t y h => (State.afterRead_h t y).trans h) (fun t y w h => (State.store_h t y w).trans h) rfl x v

@[simp] theorem State.write_l (s : State) (x : Word) (v : Byte) : (s.write x v).l = s.l :=
  State.write_induct (P := fun t => t.l = s.l) (fun t y h => (State.afterRead_l t y).trans h) (fun t y w h => (State.store_l t y w).trans h) rfl x v

@[simp] theorem State.write_sp (s : State) (x : Word) (v : Byte) : (s.write x v).sp = s.sp :=
  State.write_induct (P := fun t => t.sp = s.sp) (fun t y h => (State.afterRead_sp t y).trans h) (fun t y w h => (State.store_sp t y w).trans h) rfl x v

@[simp] theorem State.write_pc (s : State) (x : Word) (v : Byte) : (s.write x v).pc = s.pc :=
  State.write_induct (P := fun t => t.pc = s.pc) (fun t y h => (State.afterRead_pc t y).trans h) (fun t y w h => (State.store_pc t y w).trans h) rfl x v

@[simp] theorem State.write_ime (s : State) (x : Word) (v : Byte) : (s.write x v).ime = s.ime :=
  State.write_induct (P := fun t => t.ime = s.ime) (fun t y h => (State.afterRead_ime t y).trans h) (fun t y w h => (State.store_ime t y w).trans h) rfl x v

@[simp] theorem State.write_halted (s : State) (x : Word) (v : Byte) : (s.write x v).halted = s.halted :=
  State.write_induct (P := fun t => t.halted = s.halted) (fun t y h => (State.afterRead_halted t y).trans h) (fun t y w h => (State.store_halted t y w).trans h) rfl x v

@[simp] theorem State.write_eiDelay (s : State) (x : Word) (v : Byte) : (s.write x v).eiDelay = s.eiDelay :=
  State.write_induct (P := fun t => t.eiDelay = s.eiDelay) (fun t y h => (State.afterRead_eiDelay t y).trans h) (fun t y w h => (State.store_eiDelay t y w).trans h) rfl x v

@[simp] theorem State.write_fault (s : State) (x : Word) (v : Byte) : (s.write x v).fault = s.fault :=
  State.write_induct (P := fun t => t.fault = s.fault) (fun t y h => (State.afterRead_fault t y).trans h) (fun t y w h => (State.store_fault t y w).trans h) rfl x v

@[simp] theorem State.write_bootRom (s : State) (x : Word) (v : Byte) : (s.write x v).bootRom = s.bootRom :=
  State.write_induct (P := fun t => t.bootRom = s.bootRom) (fun t y h => (State.afterRead_bootRom t y).trans h) (fun t y w h => (State.store_bootRom t y w).trans h) rfl x v

@[simp] theorem State.write_cost (s : State) (x : Word) (v : Byte) : (s.write x v).cost = s.cost :=
  State.write_induct (P := fun t => t.cost = s.cost) (fun t y h => (State.afterRead_cost t y).trans h) (fun t y w h => (State.store_cost t y w).trans h) rfl x v

@[simp] theorem State.write_params (s : State) (x : Word) (v : Byte) : (s.write x v).params = s.params :=
  State.write_induct (P := fun t => t.params = s.params) (fun t y h => (State.afterRead_params t y).trans h) (fun t y w h => (State.store_params t y w).trans h) rfl x v

@[simp] theorem State.write_env (s : State) (x : Word) (v : Byte) : (s.write x v).env = s.env :=
  State.write_induct (P := fun t => t.env = s.env) (fun t y h => (State.afterRead_env t y).trans h) (fun t y w h => (State.store_env t y w).trans h) rfl x v

@[simp] theorem State.reg_write (s : State) (x : Word) (v : Byte) (r : Reg8) : (s.write x v).reg r = s.reg r := by
  cases r <;> simp [State.reg]

@[simp] theorem State.hl_write (s : State) (x : Word) (v : Byte) : (s.write x v).hl = s.hl := by simp [State.hl]

@[simp] theorem State.flags_write (s : State) (x : Word) (v : Byte) : (s.write x v).flags = s.flags := by simp [State.flags]

/-! ### Reading after a change of memory -/

/-- The byte at an address that `mem` holds, the overlay apart. -/
theorem State.read_backed (s : State) {k : Word} (h : memBacked s.params (resolve s.params k) = true)
    (ho : ¬ (owner s.params k = .rom ∧ s.overlay = true ∧ resolve s.params k < 0x0100)) :
    s.read k = s.mem.read (resolve s.params k).toNat := by
  unfold memBacked at h
  unfold owner at ho
  simp only [State.read]
  split <;> simp_all

/-- A change of `mem` at one address leaves the reads of all others. -/
theorem State.read_poke_of_ne (s : State) (hm : s.mem.wf = true) (x : Word) (v : Byte) {k : Word} (hk : resolve s.params k ≠ x) :
    (s.poke x v).read k = s.read k := by
  have hne : (resolve s.params k).toNat ≠ x.toNat := fun h => hk (BitVec.eq_of_toNat_eq h)
  simp only [State.read, State.poke_params, State.poke_mem, State.poke_bootRom, State.poke_overlay, State.poke_ie,
    State.poke_iflag, State.poke_timer, State.poke_answers, State.poke_draws, Memory.read_write hm, if_neg hne]
  rfl

/-- A change of `mem` shows at its own address, unless that is not `mem`'s or the overlay hides it. -/
theorem State.read_poke_self (s : State) (hm : s.mem.wf = true) {x : Word} (v : Byte)
    (h : memBacked s.params (resolve s.params x) = true)
    (ho : ¬ (owner s.params x = .rom ∧ s.overlay = true ∧ resolve s.params x < 0x0100)) :
    (s.poke (resolve s.params x) v).read x = v := by
  rw [State.read_backed (s.poke _ v) h ho]
  simp [Memory.read_write hm]

/-! ### Canonical memory is kept -/

theorem State.poke_memOk {s : State} (h : s.memOk = true) {x : Word} (hb : memBacked s.params x = true) (v : Byte) :
    (s.poke x v).memOk = true := by
  simp only [State.memOk, Bool.and_eq_true, List.all_eq_true, State.poke_mem, State.poke_params] at h ⊢
  refine ⟨Memory.write_wf h.1 x.isLt v, fun c hc => ?_⟩
  rcases Memory.mem_write hc with he | hc
  · rw [he]; simpa using hb
  · exact h.2 c hc

theorem State.memOk_wf {s : State} (h : s.memOk = true) : s.mem.wf = true := by
  simp only [State.memOk, Bool.and_eq_true] at h; exact h.1

/-- A read keeps memory canonical. -/
theorem State.afterRead_memOk {s : State} (h : s.memOk = true) (x : Word) : (s.afterRead x).memOk = true := by
  simpa [State.memOk] using h

/-- A stored byte keeps memory canonical. -/
theorem State.store_memOk {s : State} (h : s.memOk = true) (x : Word) (v : Byte) : (s.store x v).memOk = true :=
  State.store_cases (P := fun t => t.memOk = true) s x v (fun _ => h) (fun hb _ => State.poke_memOk h hb v)
    (fun _ => h) (fun _ => h) (fun _ => h) (fun _ => h) (fun _ => h) (fun _ => h)
    (fun ho => State.poke_memOk (s := s) h (memBacked_of_owner ho (by simp)) v)

/-- A write keeps memory canonical. -/
theorem State.write_memOk {s : State} (h : s.memOk = true) (x : Word) (v : Byte) : (s.write x v).memOk = true :=
  State.write_induct (P := fun t => t.memOk = true) (fun _ _ h => State.afterRead_memOk h _) (fun _ _ _ h => State.store_memOk h _ _) h x v

theorem State.deviceSet_params (s : State) (x : Word) (v : Byte) : (s.deviceSet x v).params = s.params := by
  unfold State.deviceSet; simp only; split <;> rfl

/-- A device's change keeps memory canonical. -/
theorem State.deviceSet_memOk {s : State} (h : s.memOk = true) (x : Word) (v : Byte) : (s.deviceSet x v).memOk = true := by
  unfold State.deviceSet
  simp only
  split <;> first
    | exact h
    | exact State.poke_memOk h (memBacked_of_owner (by assumption) (by simp)) v

/-! ### The two buses the spec names -/

/-- Behind the default bus no address is a mirror. -/
theorem resolve_standard {p : Params} (h : p.bus = .standard) (x : Word) : resolve p x = x := by
  simp [resolve, h, Bus.standard]

/-- Behind the default bus the address map owns every address. -/
theorem owner_standard {p : Params} (h : p.bus = .standard) (x : Word) : owner p x = standardOwner p x := by
  rw [owner, resolve_standard h]
  simp only [ownerAt, h, Bus.standard, List.find?_nil]
  by_cases h1 : x = 0xFFFF
  · subst h1; simp [standardOwner]
  · by_cases h2 : x = 0xFF0F
    · subst h2; simp [standardOwner, ioOwner]
    · rw [if_neg h1, if_neg h2]

theorem ioOwner_ne_scripted (p : Params) (x : Word) : ioOwner p x ≠ .scripted := by
  unfold ioOwner; split_ifs <;> exact nofun

theorem standardOwner_ne_scripted (p : Params) (x : Word) : standardOwner p x ≠ .scripted := by
  unfold standardOwner; split_ifs <;> first | exact ioOwner_ne_scripted p x | exact nofun

/-- Behind the default bus nothing is scripted, so a read changes nothing. -/
theorem owner_standard_ne_scripted {p : Params} (h : p.bus = .standard) (x : Word) : owner p x ≠ .scripted :=
  owner_standard h x ▸ standardOwner_ne_scripted p x

/-! ### Reads that a write leaves alone -/

/-- What an owner says of the addresses it owns: the registers have one each, ROM lies below 0x8000. -/
def Owner.Owns (o : Owner) (k : Word) : Prop :=
  match o with
  | .interruptEnable => k = 0xFFFF
  | .interruptFlag => k = 0xFF0F
  | .div => k = 0xFF04
  | .tima => k = 0xFF05
  | .tma => k = 0xFF06
  | .tac => k = 0xFF07
  | .dmaTrigger => k = 0xFF46
  | .bootDisable => k = 0xFF50
  | .rom => k < 0x8000
  | .vram | .extRam | .workRam | .oam | .device | .highRam | .openBus | .scripted => True

theorem ioOwner_owns (p : Params) (k : Word) : (ioOwner p k).Owns k := by
  unfold ioOwner; split_ifs <;> first | assumption | trivial

theorem standardOwner_owns (p : Params) {k : Word} (h : k ≠ 0xFFFF) : (standardOwner p k).Owns k := by
  unfold standardOwner; split_ifs <;> first | assumption | trivial | exact ioOwner_owns p k | exact absurd (by bv_omega) h

theorem ownerAt_owns (p : Params) (k : Word) : (ownerAt p k).Owns k := by
  unfold ownerAt
  split_ifs
  · assumption
  · assumption
  · split
    · rename_i r _; cases hr : r.serve <;> simp [serveOwner, Owner.Owns]
    · exact standardOwner_owns p ‹_›

/-- The owner of the location an address names, said of that location. -/
theorem owns_of_owner {p : Params} {k : Word} {o : Owner} (h : owner p k = o) : o.Owns (resolve p k) := h ▸ ownerAt_owns p (resolve p k)

/-- A stored byte changes the read of no address it does not touch. -/
theorem State.read_store_untouched {s : State} (h : s.memOk = true) {x k : Word} (v : Byte)
    (hk : byteTouches s.params x k = false) : (s.store x v).read k = s.read k := by
  have hwf := State.memOk_wf h
  unfold byteTouches at hk
  rw [Bool.or_eq_false_iff] at hk
  have hne : resolve s.params k ≠ resolve s.params x := by simpa using hk.1
  have hk2 := hk.2
  have single : ∀ t : State, t.params = s.params → t.mem = s.mem → t.bootRom = s.bootRom → t.overlay = s.overlay →
      t.answers = s.answers → t.draws = s.draws →
      (owner s.params k = .interruptEnable → t.ie = s.ie) → (owner s.params k = .interruptFlag → t.iflag = s.iflag) →
      (owner s.params k = .div → t.timer.div = s.timer.div) → (owner s.params k = .tima → t.timer.tima = s.timer.tima) →
      (owner s.params k = .tma → t.timer.tma = s.timer.tma) → (owner s.params k = .tac → t.timer.tac = s.timer.tac) →
      t.read k = s.read k := by
    intro t h1 h2 h3 h4 h5 h6 h7 h8 h9 h10 h11 h12
    unfold owner at h7 h8 h9 h10 h11 h12
    simp only [State.read]
    rw [h1, h2, h3, h4, h5, h6]
    split <;> simp_all
  refine State.store_cases (P := fun t => t.read k = s.read k) s x v (fun _ => rfl)
    (fun _ _ => State.read_poke_of_ne s hwf _ v hne) ?_ ?_ ?_ ?_ ?_ ?_ ?_ <;> intro ho
  · exact single _ rfl rfl rfl rfl rfl rfl (fun hk => absurd ((owns_of_owner hk).trans (owns_of_owner ho).symm) hne) (fun _ => rfl) (fun _ => rfl)
      (fun _ => rfl) (fun _ => rfl) (fun _ => rfl)
  · exact single _ rfl rfl rfl rfl rfl rfl (fun _ => rfl) (fun hk => absurd ((owns_of_owner hk).trans (owns_of_owner ho).symm) hne) (fun _ => rfl)
      (fun _ => rfl) (fun _ => rfl) (fun _ => rfl)
  · exact single _ rfl rfl rfl rfl rfl rfl (fun _ => rfl) (fun _ => rfl) (fun hk => absurd ((owns_of_owner hk).trans (owns_of_owner ho).symm) hne)
      (fun _ => rfl) (fun _ => rfl) (fun _ => rfl)
  · exact single _ rfl rfl rfl rfl rfl rfl (fun _ => rfl) (fun _ => rfl) (fun _ => rfl)
      (fun hk => absurd ((owns_of_owner hk).trans (owns_of_owner ho).symm) hne) (fun _ => rfl) (fun _ => rfl)
  · exact single _ rfl rfl rfl rfl rfl rfl (fun _ => rfl) (fun _ => rfl) (fun _ => rfl) (fun _ => rfl)
      (fun hk => absurd ((owns_of_owner hk).trans (owns_of_owner ho).symm) hne) (fun _ => rfl)
  · refine single _ rfl rfl rfl rfl rfl rfl (fun _ => rfl) (fun _ => rfl) (fun _ => ?_) (fun hk => ?_) (fun _ => ?_)
      (fun hk => absurd ((owns_of_owner hk).trans (owns_of_owner ho).symm) hne)
    · simp only [Timer.writeTac]; split <;> rfl
    · rw [ho] at hk2
      have : resolve s.params k = 0xFF05 := owns_of_owner hk
      simp [this] at hk2
    · simp only [Timer.writeTac]; split <;> rfl
  · rw [ho] at hk2
    have hge : ¬ resolve s.params k < 0x0100 := by simpa using hk2
    rw [← State.read_poke_of_ne s hwf _ v hne]
    simp only [State.read, State.poke_params, hge, decide_false, Bool.and_false]

/-- The copy changes the read of no unscripted address that none of its 160 stores touches. -/
theorem State.read_dmaCopy {s : State} (h : s.memOk = true) (src : Byte) {n : Nat} {k : Word} (hs : owner s.params k ≠ .scripted)
    (hk : ∀ m, m < n → byteTouches s.params (0xFE00 + BitVec.ofNat 16 m) k = false) :
    (State.dmaCopy src n s).read k = s.read k ∧ (State.dmaCopy src n s).memOk = true ∧
      (State.dmaCopy src n s).params = s.params := by
  induction n with
  | zero => exact ⟨rfl, h, rfl⟩
  | succ n ih =>
    obtain ⟨h1, h2, h3⟩ := ih fun m hm => hk m (by omega)
    have h4 := State.afterRead_memOk h2 (Word.ofBytes src (BitVec.ofNat 8 n))
    refine ⟨?_, State.store_memOk h4 _ _, by simpa [State.dmaCopy] using h3⟩
    rw [State.dmaCopy, State.read_store_untouched h4 _ (by simpa [h3] using hk n (by omega)),
      State.read_afterRead (by simpa [h3] using hs), h1]

/-- A write changes the read of no address it does not touch. -/
theorem State.read_write_untouched {s : State} (h : s.memOk = true) {x k : Word} (v : Byte)
    (hk : storeTouches s.params x k = false) : (s.write x v).read k = s.read k := by
  unfold storeTouches at hk
  rw [Bool.or_eq_false_iff] at hk
  rw [← State.read_store_untouched h v hk.1]
  unfold State.write
  split
  · rename_i ho
    have h2 := hk.2
    rw [ho] at h2
    simp only [Bool.or_eq_false_iff, List.any_eq_false, List.mem_range, beq_eq_false_iff_ne, Bool.not_eq_true] at h2
    exact (State.read_dmaCopy (State.store_memOk h x v) v (by simpa using h2.1) (by simpa using h2.2)).1
  · rfl

/-! ### The timer keeps its phases -/

theorem Timer.period_pos (tac : Byte) : 0 < Timer.period tac := by unfold Timer.period; split <;> omega

@[simp] theorem Timer.count_tac (n : Nat) (t : Timer) : (Timer.count n t).1.tac = t.tac := by
  induction n with
  | zero => rfl
  | succ n ih => rw [Timer.count]; split <;> simpa using ih

@[simp] theorem Timer.count_timaPhase (n : Nat) (t : Timer) : (Timer.count n t).1.timaPhase = t.timaPhase := by
  induction n with
  | zero => rfl
  | succ n ih => rw [Timer.count]; split <;> simpa using ih

@[simp] theorem Timer.count_divPhase (n : Nat) (t : Timer) : (Timer.count n t).1.divPhase = t.divPhase := by
  induction n with
  | zero => rfl
  | succ n ih => rw [Timer.count]; split <;> simpa using ih

/-- The phases of a timer are in range. -/
def Timer.PhasesOk (t : Timer) : Prop := t.divPhase < 256 ∧ t.timaPhase < Timer.period t.tac

theorem Timer.advance_phasesOk {t : Timer} (h : t.PhasesOk) (n : Nat) : (t.advance n).1.PhasesOk := by
  unfold Timer.advance Timer.advanceTima Timer.advanceDiv Timer.PhasesOk at *
  have hp := Timer.period_pos t.tac
  split
  · simp only [Timer.count_divPhase, Timer.count_timaPhase, Timer.count_tac]
    exact ⟨Nat.mod_lt _ (by omega), Nat.mod_lt _ hp⟩
  · exact ⟨Nat.mod_lt _ (by omega), h.2⟩

theorem Timer.period_congr {x y : Byte} (h : x.extractLsb' 0 2 = y.extractLsb' 0 2) : Timer.period x = Timer.period y := by
  unfold Timer.period; rw [h]

theorem Timer.writeTac_phasesOk {t : Timer} (h : t.PhasesOk) (v : Byte) : (t.writeTac v).PhasesOk := by
  unfold Timer.writeTac
  split
  · rename_i he
    exact ⟨h.1, by simpa [Timer.period_congr he] using h.2⟩
  · exact ⟨h.1, Timer.period_pos _⟩

theorem State.store_phasesOk {s : State} (h : s.timer.PhasesOk) (x : Word) (v : Byte) : (s.store x v).timer.PhasesOk :=
  State.store_cases (P := fun t => t.timer.PhasesOk) s x v (fun _ => h) (fun _ _ => h) (fun _ => h) (fun _ => h)
    (fun _ => ⟨by simp [Timer.resetDiv], h.2⟩) (fun _ => h) (fun _ => h) (fun _ => Timer.writeTac_phasesOk h v) (fun _ => h)

theorem State.write_phasesOk {s : State} (h : s.timer.PhasesOk) (x : Word) (v : Byte) : (s.write x v).timer.PhasesOk :=
  State.write_induct (P := fun t => t.timer.PhasesOk) (fun t y h => by simpa using h) (fun _ _ _ h => State.store_phasesOk h _ _) h x v

theorem State.deviceSet_timer (s : State) (x : Word) (v : Byte) : (s.deviceSet x v).timer = s.timer := by
  unfold State.deviceSet; simp only; split <;> rfl

end Sys2Proof.Machine
end

