-- ==== Sys2Proof/Laws/Ops.lean ====
section
/-! SUPPORT. The laws of the shared operations: the stack, taking an interrupt, the bookkeeping, and the devices' turn. -/

namespace Sys2Proof.Machine

/-! ### The stack -/

theorem State.store_setSp (s : State) (w x : Word) (v : Byte) : (s.setSp w).store x v = (s.store x v).setSp w := by
  unfold State.store
  simp only [State.setSp_params]
  split <;> rfl

theorem State.dmaCopy_setSp (s : State) (w : Word) (src : Byte) (n : Nat) :
    State.dmaCopy src n (s.setSp w) = (State.dmaCopy src n s).setSp w := by
  induction n with
  | zero => rfl
  | succ n ih => simp only [State.dmaCopy, ih, State.setSp_read, State.afterRead_setSp, State.store_setSp]

/-- A store does not look at SP. -/
theorem State.write_setSp (s : State) (w x : Word) (v : Byte) : (s.setSp w).write x v = (s.write x v).setSp w := by
  unfold State.write
  simp only [State.setSp_params, State.store_setSp, State.dmaCopy_setSp]
  split <;> rfl

/-- A push is two stores below SP, the high byte first, and SP moved down by two (R210). -/
theorem State.push16_eq (s : State) (v : Word) :
    s.push16 v = ((s.write (s.sp - 1) v.hi).write (s.sp - 2) v.lo).setSp (s.sp - 2) := by
  simp only [State.push16, State.write_setSp]
  rfl

@[simp] theorem State.push16_sp (s : State) (v : Word) : (s.push16 v).sp = s.sp - 2 := by simp [State.push16_eq]

@[simp] theorem State.push16_a (s : State) (v : Word) : (s.push16 v).a = s.a := by simp [State.push16_eq]
@[simp] theorem State.push16_f (s : State) (v : Word) : (s.push16 v).f = s.f := by simp [State.push16_eq]
@[simp] theorem State.push16_b (s : State) (v : Word) : (s.push16 v).b = s.b := by simp [State.push16_eq]
@[simp] theorem State.push16_c (s : State) (v : Word) : (s.push16 v).c = s.c := by simp [State.push16_eq]
@[simp] theorem State.push16_d (s : State) (v : Word) : (s.push16 v).d = s.d := by simp [State.push16_eq]
@[simp] theorem State.push16_e (s : State) (v : Word) : (s.push16 v).e = s.e := by simp [State.push16_eq]
@[simp] theorem State.push16_h (s : State) (v : Word) : (s.push16 v).h = s.h := by simp [State.push16_eq]
@[simp] theorem State.push16_l (s : State) (v : Word) : (s.push16 v).l = s.l := by simp [State.push16_eq]
@[simp] theorem State.push16_pc (s : State) (v : Word) : (s.push16 v).pc = s.pc := by simp [State.push16_eq]
@[simp] theorem State.push16_ime (s : State) (v : Word) : (s.push16 v).ime = s.ime := by simp [State.push16_eq]
@[simp] theorem State.push16_halted (s : State) (v : Word) : (s.push16 v).halted = s.halted := by simp [State.push16_eq]
@[simp] theorem State.push16_eiDelay (s : State) (v : Word) : (s.push16 v).eiDelay = s.eiDelay := by simp [State.push16_eq]
@[simp] theorem State.push16_fault (s : State) (v : Word) : (s.push16 v).fault = s.fault := by simp [State.push16_eq]
@[simp] theorem State.push16_bootRom (s : State) (v : Word) : (s.push16 v).bootRom = s.bootRom := by simp [State.push16_eq]
@[simp] theorem State.push16_cost (s : State) (v : Word) : (s.push16 v).cost = s.cost := by simp [State.push16_eq]
@[simp] theorem State.push16_params (s : State) (v : Word) : (s.push16 v).params = s.params := by simp [State.push16_eq]
@[simp] theorem State.push16_env (s : State) (v : Word) : (s.push16 v).env = s.env := by simp [State.push16_eq]
@[simp] theorem State.reg_push16 (s : State) (v : Word) (r : Reg8) : (s.push16 v).reg r = s.reg r := by cases r <;> simp [State.reg]

theorem State.push16_memOk {s : State} (h : s.memOk = true) (v : Word) : (s.push16 v).memOk = true := by
  rw [State.push16_eq]
  exact State.write_memOk (State.write_memOk h _ _) _ _

theorem State.push16_phasesOk {s : State} (h : s.timer.PhasesOk) (v : Word) : (s.push16 v).timer.PhasesOk := by
  rw [State.push16_eq]
  exact State.write_phasesOk (State.write_phasesOk h _ _) _ _

/-- A push changes the read of no address its two stores do not touch. -/
theorem State.read_push16_untouched {s : State} (h : s.memOk = true) (v : Word) {k : Word}
    (h1 : storeTouches s.params (s.sp - 1) k = false) (h2 : storeTouches s.params (s.sp - 2) k = false) :
    (s.push16 v).read k = s.read k := by
  rw [State.push16_eq, State.setSp_read, State.read_write_untouched (State.write_memOk h _ _) _ (by simpa using h2),
    State.read_write_untouched h _ h1]


@[simp] theorem State.popped_a (s : State) : s.popped.a = s.a := by simp [State.popped, State.afterRead16]
@[simp] theorem State.popped_f (s : State) : s.popped.f = s.f := by simp [State.popped, State.afterRead16]
@[simp] theorem State.popped_b (s : State) : s.popped.b = s.b := by simp [State.popped, State.afterRead16]
@[simp] theorem State.popped_c (s : State) : s.popped.c = s.c := by simp [State.popped, State.afterRead16]
@[simp] theorem State.popped_d (s : State) : s.popped.d = s.d := by simp [State.popped, State.afterRead16]
@[simp] theorem State.popped_e (s : State) : s.popped.e = s.e := by simp [State.popped, State.afterRead16]
@[simp] theorem State.popped_h (s : State) : s.popped.h = s.h := by simp [State.popped, State.afterRead16]
@[simp] theorem State.popped_l (s : State) : s.popped.l = s.l := by simp [State.popped, State.afterRead16]
@[simp] theorem State.popped_pc (s : State) : s.popped.pc = s.pc := by simp [State.popped, State.afterRead16]
@[simp] theorem State.popped_ime (s : State) : s.popped.ime = s.ime := by simp [State.popped, State.afterRead16]
@[simp] theorem State.popped_halted (s : State) : s.popped.halted = s.halted := by simp [State.popped, State.afterRead16]
@[simp] theorem State.popped_eiDelay (s : State) : s.popped.eiDelay = s.eiDelay := by simp [State.popped, State.afterRead16]
@[simp] theorem State.popped_fault (s : State) : s.popped.fault = s.fault := by simp [State.popped, State.afterRead16]
@[simp] theorem State.popped_bootRom (s : State) : s.popped.bootRom = s.bootRom := by simp [State.popped, State.afterRead16]
@[simp] theorem State.popped_cost (s : State) : s.popped.cost = s.cost := by simp [State.popped, State.afterRead16]
@[simp] theorem State.popped_params (s : State) : s.popped.params = s.params := by simp [State.popped, State.afterRead16]
@[simp] theorem State.popped_env (s : State) : s.popped.env = s.env := by simp [State.popped, State.afterRead16]
@[simp] theorem State.popped_ie (s : State) : s.popped.ie = s.ie := by simp [State.popped, State.afterRead16]
@[simp] theorem State.popped_iflag (s : State) : s.popped.iflag = s.iflag := by simp [State.popped, State.afterRead16]
@[simp] theorem State.popped_mem (s : State) : s.popped.mem = s.mem := by simp [State.popped, State.afterRead16]
@[simp] theorem State.popped_overlay (s : State) : s.popped.overlay = s.overlay := by simp [State.popped, State.afterRead16]
@[simp] theorem State.popped_timer (s : State) : s.popped.timer = s.timer := by simp [State.popped, State.afterRead16]
@[simp] theorem State.popped_sp (s : State) : s.popped.sp = s.sp + 2 := rfl

@[simp] theorem State.reg_popped (s : State) (r : Reg8) : s.popped.reg r = s.reg r := by cases r <;> simp [State.reg]

/-- A pop changes what an unscripted address reads as nowhere. -/
theorem State.read_popped {s : State} {k : Word} (hk : owner s.params k ≠ .scripted) : s.popped.read k = s.read k := by
  rw [State.popped, State.setSp_read, State.afterRead16, State.read_afterRead (by simpa using hk), State.read_afterRead hk]

/-! ### Interrupts -/

/-- The source taken is one of the five, its bit is set and every lower one is clear (R911). -/
theorem lowestSource_spec {p : Byte} (h : p &&& 0x1F ≠ 0) :
    lowestSource p < 5 ∧ (p &&& 0x1F).getLsbD (lowestSource p) = true ∧
      ∀ j, j < lowestSource p → (p &&& 0x1F).getLsbD j = false := by
  revert p
  decide

/-! ### Fetching -/

/-- What every read keeps, and moving PC, fetching keeps. -/
theorem State.fetchBytes_induct {P : State → Prop} (hread : ∀ t x, P t → P (t.afterRead x)) (hpc : ∀ t x, P t → P (t.setPc x))
    (n : Nat) {s : State} (h : P s) : P (State.fetchBytes n s).2 := by
  induction n generalizing s with
  | zero => exact h
  | succ n ih => exact ih (hpc _ _ (hread _ _ h))

@[simp] theorem State.fetchBytes_length (n : Nat) (s : State) : (State.fetchBytes n s).1.length = n := by
  induction n generalizing s with
  | zero => rfl
  | succ n ih => simp [State.fetchBytes, ih]

@[simp] theorem State.fetchBytes_pc (n : Nat) (s : State) : (State.fetchBytes n s).2.pc = s.pc + BitVec.ofNat 16 n := by
  induction n generalizing s with
  | zero => simp [State.fetchBytes]
  | succ n ih => simp only [State.fetchBytes, ih, State.setPc_pc]; bv_omega

/-- Where nothing that is fetched is scripted, fetching moves PC and changes nothing else. -/
theorem State.fetchBytes_plain (n : Nat) {s : State} (h : ∀ m, m < n → owner s.params (s.pc + BitVec.ofNat 16 m) ≠ .scripted) :
    (State.fetchBytes n s).2 = s.setPc (s.pc + BitVec.ofNat 16 n) := by
  induction n generalizing s with
  | zero => simp [State.fetchBytes, State.setPc]
  | succ n ih =>
    have h0 : s.afterRead s.pc = s := State.afterRead_of_ne (by simpa using h 0 (by omega))
    have hpc : ∀ m, s.pc + 1 + BitVec.ofNat 16 m = s.pc + BitVec.ofNat 16 (m + 1) := fun m => by bv_omega
    simp only [State.fetchBytes, h0]
    rw [ih fun m hm => by simpa only [State.setPc_pc, State.setPc_params, hpc] using h (m + 1) (by omega)]
    simp only [State.setPc_pc, hpc]
    rfl


@[simp] theorem State.pastFetch_a (s : State) : s.pastFetch.a = s.a :=
  State.fetchBytes_induct (P := fun t => t.a = s.a) (fun t x h => (State.afterRead_a t x).trans h) (fun _ _ h => h) _ rfl
@[simp] theorem State.pastFetch_f (s : State) : s.pastFetch.f = s.f :=
  State.fetchBytes_induct (P := fun t => t.f = s.f) (fun t x h => (State.afterRead_f t x).trans h) (fun _ _ h => h) _ rfl
@[simp] theorem State.pastFetch_b (s : State) : s.pastFetch.b = s.b :=
  State.fetchBytes_induct (P := fun t => t.b = s.b) (fun t x h => (State.afterRead_b t x).trans h) (fun _ _ h => h) _ rfl
@[simp] theorem State.pastFetch_c (s : State) : s.pastFetch.c = s.c :=
  State.fetchBytes_induct (P := fun t => t.c = s.c) (fun t x h => (State.afterRead_c t x).trans h) (fun _ _ h => h) _ rfl
@[simp] theorem State.pastFetch_d (s : State) : s.pastFetch.d = s.d :=
  State.fetchBytes_induct (P := fun t => t.d = s.d) (fun t x h => (State.afterRead_d t x).trans h) (fun _ _ h => h) _ rfl
@[simp] theorem State.pastFetch_e (s : State) : s.pastFetch.e = s.e :=
  State.fetchBytes_induct (P := fun t => t.e = s.e) (fun t x h => (State.afterRead_e t x).trans h) (fun _ _ h => h) _ rfl
@[simp] theorem State.pastFetch_h (s : State) : s.pastFetch.h = s.h :=
  State.fetchBytes_induct (P := fun t => t.h = s.h) (fun t x h => (State.afterRead_h t x).trans h) (fun _ _ h => h) _ rfl
@[simp] theorem State.pastFetch_l (s : State) : s.pastFetch.l = s.l :=
  State.fetchBytes_induct (P := fun t => t.l = s.l) (fun t x h => (State.afterRead_l t x).trans h) (fun _ _ h => h) _ rfl
@[simp] theorem State.pastFetch_ime (s : State) : s.pastFetch.ime = s.ime :=
  State.fetchBytes_induct (P := fun t => t.ime = s.ime) (fun t x h => (State.afterRead_ime t x).trans h) (fun _ _ h => h) _ rfl
@[simp] theorem State.pastFetch_halted (s : State) : s.pastFetch.halted = s.halted :=
  State.fetchBytes_induct (P := fun t => t.halted = s.halted) (fun t x h => (State.afterRead_halted t x).trans h) (fun _ _ h => h) _ rfl
@[simp] theorem State.pastFetch_eiDelay (s : State) : s.pastFetch.eiDelay = s.eiDelay :=
  State.fetchBytes_induct (P := fun t => t.eiDelay = s.eiDelay) (fun t x h => (State.afterRead_eiDelay t x).trans h) (fun _ _ h => h) _ rfl
@[simp] theorem State.pastFetch_fault (s : State) : s.pastFetch.fault = s.fault :=
  State.fetchBytes_induct (P := fun t => t.fault = s.fault) (fun t x h => (State.afterRead_fault t x).trans h) (fun _ _ h => h) _ rfl
@[simp] theorem State.pastFetch_bootRom (s : State) : s.pastFetch.bootRom = s.bootRom :=
  State.fetchBytes_induct (P := fun t => t.bootRom = s.bootRom) (fun t x h => (State.afterRead_bootRom t x).trans h) (fun _ _ h => h) _ rfl
@[simp] theorem State.pastFetch_cost (s : State) : s.pastFetch.cost = s.cost :=
  State.fetchBytes_induct (P := fun t => t.cost = s.cost) (fun t x h => (State.afterRead_cost t x).trans h) (fun _ _ h => h) _ rfl
@[simp] theorem State.pastFetch_params (s : State) : s.pastFetch.params = s.params :=
  State.fetchBytes_induct (P := fun t => t.params = s.params) (fun t x h => (State.afterRead_params t x).trans h) (fun _ _ h => h) _ rfl
@[simp] theorem State.pastFetch_env (s : State) : s.pastFetch.env = s.env :=
  State.fetchBytes_induct (P := fun t => t.env = s.env) (fun t x h => (State.afterRead_env t x).trans h) (fun _ _ h => h) _ rfl
@[simp] theorem State.pastFetch_sp (s : State) : s.pastFetch.sp = s.sp :=
  State.fetchBytes_induct (P := fun t => t.sp = s.sp) (fun t x h => (State.afterRead_sp t x).trans h) (fun _ _ h => h) _ rfl
@[simp] theorem State.pastFetch_ie (s : State) : s.pastFetch.ie = s.ie :=
  State.fetchBytes_induct (P := fun t => t.ie = s.ie) (fun t x h => (State.afterRead_ie t x).trans h) (fun _ _ h => h) _ rfl
@[simp] theorem State.pastFetch_iflag (s : State) : s.pastFetch.iflag = s.iflag :=
  State.fetchBytes_induct (P := fun t => t.iflag = s.iflag) (fun t x h => (State.afterRead_iflag t x).trans h) (fun _ _ h => h) _ rfl
@[simp] theorem State.pastFetch_mem (s : State) : s.pastFetch.mem = s.mem :=
  State.fetchBytes_induct (P := fun t => t.mem = s.mem) (fun t x h => (State.afterRead_mem t x).trans h) (fun _ _ h => h) _ rfl
@[simp] theorem State.pastFetch_overlay (s : State) : s.pastFetch.overlay = s.overlay :=
  State.fetchBytes_induct (P := fun t => t.overlay = s.overlay) (fun t x h => (State.afterRead_overlay t x).trans h) (fun _ _ h => h) _ rfl
@[simp] theorem State.pastFetch_timer (s : State) : s.pastFetch.timer = s.timer :=
  State.fetchBytes_induct (P := fun t => t.timer = s.timer) (fun t x h => (State.afterRead_timer t x).trans h) (fun _ _ h => h) _ rfl
@[simp] theorem State.pastFetch_pc (s : State) : s.pastFetch.pc = s.pc + BitVec.ofNat 16 (instrLength (s.read s.pc)) :=
  State.fetchBytes_pc _ s

@[simp] theorem State.reg_pastFetch (s : State) (r : Reg8) : s.pastFetch.reg r = s.reg r := by cases r <;> simp [State.reg]

/-- Fetching changes what an unscripted address reads as nowhere. -/
theorem State.pastFetch_read {s : State} {k : Word} (hk : owner s.params k ≠ .scripted) : s.pastFetch.read k = s.read k :=
  (State.fetchBytes_induct (P := fun t => t.params = s.params ∧ t.read k = s.read k)
    (fun t x h => ⟨by simpa using h.1, (State.read_afterRead (h.1 ▸ hk) x).trans h.2⟩) (fun _ _ h => h) _ ⟨rfl, rfl⟩).2

/-! ### The bookkeeping -/

@[simp] theorem State.bookkeeping_a (s : State) : s.bookkeeping.a = s.a := by unfold State.bookkeeping; split <;> rfl
@[simp] theorem State.bookkeeping_f (s : State) : s.bookkeeping.f = s.f := by unfold State.bookkeeping; split <;> rfl
@[simp] theorem State.bookkeeping_b (s : State) : s.bookkeeping.b = s.b := by unfold State.bookkeeping; split <;> rfl
@[simp] theorem State.bookkeeping_c (s : State) : s.bookkeeping.c = s.c := by unfold State.bookkeeping; split <;> rfl
@[simp] theorem State.bookkeeping_d (s : State) : s.bookkeeping.d = s.d := by unfold State.bookkeeping; split <;> rfl
@[simp] theorem State.bookkeeping_e (s : State) : s.bookkeeping.e = s.e := by unfold State.bookkeeping; split <;> rfl
@[simp] theorem State.bookkeeping_h (s : State) : s.bookkeeping.h = s.h := by unfold State.bookkeeping; split <;> rfl
@[simp] theorem State.bookkeeping_l (s : State) : s.bookkeeping.l = s.l := by unfold State.bookkeeping; split <;> rfl
@[simp] theorem State.bookkeeping_pc (s : State) : s.bookkeeping.pc = s.pc := by unfold State.bookkeeping; split <;> rfl
@[simp] theorem State.bookkeeping_halted (s : State) : s.bookkeeping.halted = s.halted := by unfold State.bookkeeping; split <;> rfl
@[simp] theorem State.bookkeeping_fault (s : State) : s.bookkeeping.fault = s.fault := by unfold State.bookkeeping; split <;> rfl
@[simp] theorem State.bookkeeping_bootRom (s : State) : s.bookkeeping.bootRom = s.bootRom := by unfold State.bookkeeping; split <;> rfl
@[simp] theorem State.bookkeeping_cost (s : State) : s.bookkeeping.cost = s.cost := by unfold State.bookkeeping; split <;> rfl
@[simp] theorem State.bookkeeping_params (s : State) : s.bookkeeping.params = s.params := by unfold State.bookkeeping; split <;> rfl
@[simp] theorem State.bookkeeping_env (s : State) : s.bookkeeping.env = s.env := by unfold State.bookkeeping; split <;> rfl
@[simp] theorem State.bookkeeping_sp (s : State) : s.bookkeeping.sp = s.sp := by unfold State.bookkeeping; split <;> rfl
@[simp] theorem State.bookkeeping_ie (s : State) : s.bookkeeping.ie = s.ie := by unfold State.bookkeeping; split <;> rfl
@[simp] theorem State.bookkeeping_iflag (s : State) : s.bookkeeping.iflag = s.iflag := by unfold State.bookkeeping; split <;> rfl
@[simp] theorem State.bookkeeping_mem (s : State) : s.bookkeeping.mem = s.mem := by unfold State.bookkeeping; split <;> rfl
@[simp] theorem State.bookkeeping_overlay (s : State) : s.bookkeeping.overlay = s.overlay := by unfold State.bookkeeping; split <;> rfl
@[simp] theorem State.bookkeeping_timer (s : State) : s.bookkeeping.timer = s.timer := by unfold State.bookkeeping; split <;> rfl
@[simp] theorem State.bookkeeping_answers (s : State) : s.bookkeeping.answers = s.answers := by unfold State.bookkeeping; split <;> rfl
@[simp] theorem State.bookkeeping_draws (s : State) : s.bookkeeping.draws = s.draws := by unfold State.bookkeeping; split <;> rfl

/-- The countdown (R905). -/
theorem State.bookkeeping_eiDelay (s : State) : s.bookkeeping.eiDelay = if s.eiDelay = 2 then 1 else 0 := by
  unfold State.bookkeeping; split <;> simp_all

theorem State.bookkeeping_ime (s : State) : s.bookkeeping.ime = (s.ime || decide (s.eiDelay = 1)) := by
  unfold State.bookkeeping; split <;> simp_all

/-! ### The devices' turn -/

@[simp] theorem State.deviceSet_a (s : State) (x : Word) (v : Byte) : (s.deviceSet x v).a = s.a := by
  unfold State.deviceSet; simp only; split <;> rfl
@[simp] theorem State.deviceSet_f (s : State) (x : Word) (v : Byte) : (s.deviceSet x v).f = s.f := by
  unfold State.deviceSet; simp only; split <;> rfl
@[simp] theorem State.deviceSet_b (s : State) (x : Word) (v : Byte) : (s.deviceSet x v).b = s.b := by
  unfold State.deviceSet; simp only; split <;> rfl
@[simp] theorem State.deviceSet_c (s : State) (x : Word) (v : Byte) : (s.deviceSet x v).c = s.c := by
  unfold State.deviceSet; simp only; split <;> rfl
@[simp] theorem State.deviceSet_d (s : State) (x : Word) (v : Byte) : (s.deviceSet x v).d = s.d := by
  unfold State.deviceSet; simp only; split <;> rfl
@[simp] theorem State.deviceSet_e (s : State) (x : Word) (v : Byte) : (s.deviceSet x v).e = s.e := by
  unfold State.deviceSet; simp only; split <;> rfl
@[simp] theorem State.deviceSet_h (s : State) (x : Word) (v : Byte) : (s.deviceSet x v).h = s.h := by
  unfold State.deviceSet; simp only; split <;> rfl
@[simp] theorem State.deviceSet_l (s : State) (x : Word) (v : Byte) : (s.deviceSet x v).l = s.l := by
  unfold State.deviceSet; simp only; split <;> rfl
@[simp] theorem State.deviceSet_pc (s : State) (x : Word) (v : Byte) : (s.deviceSet x v).pc = s.pc := by
  unfold State.deviceSet; simp only; split <;> rfl
@[simp] theorem State.deviceSet_ime (s : State) (x : Word) (v : Byte) : (s.deviceSet x v).ime = s.ime := by
  unfold State.deviceSet; simp only; split <;> rfl
@[simp] theorem State.deviceSet_halted (s : State) (x : Word) (v : Byte) : (s.deviceSet x v).halted = s.halted := by
  unfold State.deviceSet; simp only; split <;> rfl
@[simp] theorem State.deviceSet_eiDelay (s : State) (x : Word) (v : Byte) : (s.deviceSet x v).eiDelay = s.eiDelay := by
  unfold State.deviceSet; simp only; split <;> rfl
@[simp] theorem State.deviceSet_fault (s : State) (x : Word) (v : Byte) : (s.deviceSet x v).fault = s.fault := by
  unfold State.deviceSet; simp only; split <;> rfl
@[simp] theorem State.deviceSet_bootRom (s : State) (x : Word) (v : Byte) : (s.deviceSet x v).bootRom = s.bootRom := by
  unfold State.deviceSet; simp only; split <;> rfl
@[simp] theorem State.deviceSet_cost (s : State) (x : Word) (v : Byte) : (s.deviceSet x v).cost = s.cost := by
  unfold State.deviceSet; simp only; split <;> rfl
@[simp] theorem State.deviceSet_env (s : State) (x : Word) (v : Byte) : (s.deviceSet x v).env = s.env := by
  unfold State.deviceSet; simp only; split <;> rfl
@[simp] theorem State.deviceSet_sp (s : State) (x : Word) (v : Byte) : (s.deviceSet x v).sp = s.sp := by
  unfold State.deviceSet; simp only; split <;> rfl
@[simp] theorem State.deviceSet_overlay (s : State) (x : Word) (v : Byte) : (s.deviceSet x v).overlay = s.overlay := by
  unfold State.deviceSet; simp only; split <;> rfl
@[simp] theorem State.deviceSet_answers (s : State) (x : Word) (v : Byte) : (s.deviceSet x v).answers = s.answers := by
  unfold State.deviceSet; simp only; split <;> rfl
@[simp] theorem State.deviceSet_draws (s : State) (x : Word) (v : Byte) : (s.deviceSet x v).draws = s.draws := by
  unfold State.deviceSet; simp only; split <;> rfl

@[simp] theorem State.timerElapse_a (s : State) : s.timerElapse.a = s.a := by unfold State.timerElapse; split <;> rfl
@[simp] theorem State.timerElapse_f (s : State) : s.timerElapse.f = s.f := by unfold State.timerElapse; split <;> rfl
@[simp] theorem State.timerElapse_b (s : State) : s.timerElapse.b = s.b := by unfold State.timerElapse; split <;> rfl
@[simp] theorem State.timerElapse_c (s : State) : s.timerElapse.c = s.c := by unfold State.timerElapse; split <;> rfl
@[simp] theorem State.timerElapse_d (s : State) : s.timerElapse.d = s.d := by unfold State.timerElapse; split <;> rfl
@[simp] theorem State.timerElapse_e (s : State) : s.timerElapse.e = s.e := by unfold State.timerElapse; split <;> rfl
@[simp] theorem State.timerElapse_h (s : State) : s.timerElapse.h = s.h := by unfold State.timerElapse; split <;> rfl
@[simp] theorem State.timerElapse_l (s : State) : s.timerElapse.l = s.l := by unfold State.timerElapse; split <;> rfl
@[simp] theorem State.timerElapse_pc (s : State) : s.timerElapse.pc = s.pc := by unfold State.timerElapse; split <;> rfl
@[simp] theorem State.timerElapse_ime (s : State) : s.timerElapse.ime = s.ime := by unfold State.timerElapse; split <;> rfl
@[simp] theorem State.timerElapse_halted (s : State) : s.timerElapse.halted = s.halted := by unfold State.timerElapse; split <;> rfl
@[simp] theorem State.timerElapse_eiDelay (s : State) : s.timerElapse.eiDelay = s.eiDelay := by unfold State.timerElapse; split <;> rfl
@[simp] theorem State.timerElapse_fault (s : State) : s.timerElapse.fault = s.fault := by unfold State.timerElapse; split <;> rfl
@[simp] theorem State.timerElapse_bootRom (s : State) : s.timerElapse.bootRom = s.bootRom := by unfold State.timerElapse; split <;> rfl
@[simp] theorem State.timerElapse_cost (s : State) : s.timerElapse.cost = s.cost := by unfold State.timerElapse; split <;> rfl
@[simp] theorem State.timerElapse_params (s : State) : s.timerElapse.params = s.params := by unfold State.timerElapse; split <;> rfl
@[simp] theorem State.timerElapse_env (s : State) : s.timerElapse.env = s.env := by unfold State.timerElapse; split <;> rfl
@[simp] theorem State.timerElapse_sp (s : State) : s.timerElapse.sp = s.sp := by unfold State.timerElapse; split <;> rfl
@[simp] theorem State.timerElapse_overlay (s : State) : s.timerElapse.overlay = s.overlay := by unfold State.timerElapse; split <;> rfl
@[simp] theorem State.timerElapse_mem (s : State) : s.timerElapse.mem = s.mem := by unfold State.timerElapse; split <;> rfl
@[simp] theorem State.timerElapse_ie (s : State) : s.timerElapse.ie = s.ie := by unfold State.timerElapse; split <;> rfl
@[simp] theorem State.timerElapse_answers (s : State) : s.timerElapse.answers = s.answers := by unfold State.timerElapse; split <;> rfl
@[simp] theorem State.timerElapse_draws (s : State) : s.timerElapse.draws = s.draws := by unfold State.timerElapse; split <;> rfl

/-- A fact that every device's change keeps, and a change of IF or of the events left keeps, is kept by the environment's event. -/
theorem State.envElapse_induct {P : State → Prop} (hset : ∀ t x v, P t → P (t.deviceSet x v))
    (hif : ∀ (t : State) v, P t → P { t with iflag := v }) (henv : ∀ (t : State) v, P t → P { t with env := v })
    {s : State} (h : P s) : P s.envElapse := by
  unfold State.envElapse
  split
  · exact h
  · have : ∀ (cells : List (Word × Byte)) t, P t → P (cells.foldl (fun t c => t.deviceSet c.1 c.2) t) := by
      intro cells
      induction cells with
      | nil => exact fun _ ht => ht
      | cons c cs ih => exact fun t ht => ih _ (hset t c.1 c.2 ht)
    exact hif _ _ (this _ _ (henv _ _ h))

@[simp] theorem State.envElapse_env (s : State) : s.envElapse.env = s.env.tail := by
  unfold State.envElapse
  split
  · simp_all
  · rename_i v rest hv
    have : ∀ (cells : List (Word × Byte)) (t : State), t.env = rest →
        (cells.foldl (fun t c => t.deviceSet c.1 c.2) t).env = rest := by
      intro cells
      induction cells with
      | nil => exact fun _ ht => ht
      | cons c cs ih => exact fun t ht => ih _ (by simpa using ht)
    simp [this _ { s with env := rest } rfl, hv]

@[simp] theorem State.envElapse_a (s : State) : s.envElapse.a = s.a :=
  State.envElapse_induct (P := fun t => t.a = s.a) (fun t x v h => (State.deviceSet_a t x v).trans h) (fun _ _ h => h) (fun _ _ h => h) rfl
@[simp] theorem State.envElapse_f (s : State) : s.envElapse.f = s.f :=
  State.envElapse_induct (P := fun t => t.f = s.f) (fun t x v h => (State.deviceSet_f t x v).trans h) (fun _ _ h => h) (fun _ _ h => h) rfl
@[simp] theorem State.envElapse_b (s : State) : s.envElapse.b = s.b :=
  State.envElapse_induct (P := fun t => t.b = s.b) (fun t x v h => (State.deviceSet_b t x v).trans h) (fun _ _ h => h) (fun _ _ h => h) rfl
@[simp] theorem State.envElapse_c (s : State) : s.envElapse.c = s.c :=
  State.envElapse_induct (P := fun t => t.c = s.c) (fun t x v h => (State.deviceSet_c t x v).trans h) (fun _ _ h => h) (fun _ _ h => h) rfl
@[simp] theorem State.envElapse_d (s : State) : s.envElapse.d = s.d :=
  State.envElapse_induct (P := fun t => t.d = s.d) (fun t x v h => (State.deviceSet_d t x v).trans h) (fun _ _ h => h) (fun _ _ h => h) rfl
@[simp] theorem State.envElapse_e (s : State) : s.envElapse.e = s.e :=
  State.envElapse_induct (P := fun t => t.e = s.e) (fun t x v h => (State.deviceSet_e t x v).trans h) (fun _ _ h => h) (fun _ _ h => h) rfl
@[simp] theorem State.envElapse_h (s : State) : s.envElapse.h = s.h :=
  State.envElapse_induct (P := fun t => t.h = s.h) (fun t x v h => (State.deviceSet_h t x v).trans h) (fun _ _ h => h) (fun _ _ h => h) rfl
@[simp] theorem State.envElapse_l (s : State) : s.envElapse.l = s.l :=
  State.envElapse_induct (P := fun t => t.l = s.l) (fun t x v h => (State.deviceSet_l t x v).trans h) (fun _ _ h => h) (fun _ _ h => h) rfl
@[simp] theorem State.envElapse_pc (s : State) : s.envElapse.pc = s.pc :=
  State.envElapse_induct (P := fun t => t.pc = s.pc) (fun t x v h => (State.deviceSet_pc t x v).trans h) (fun _ _ h => h) (fun _ _ h => h) rfl
@[simp] theorem State.envElapse_ime (s : State) : s.envElapse.ime = s.ime :=
  State.envElapse_induct (P := fun t => t.ime = s.ime) (fun t x v h => (State.deviceSet_ime t x v).trans h) (fun _ _ h => h) (fun _ _ h => h) rfl
@[simp] theorem State.envElapse_halted (s : State) : s.envElapse.halted = s.halted :=
  State.envElapse_induct (P := fun t => t.halted = s.halted) (fun t x v h => (State.deviceSet_halted t x v).trans h) (fun _ _ h => h) (fun _ _ h => h) rfl
@[simp] theorem State.envElapse_eiDelay (s : State) : s.envElapse.eiDelay = s.eiDelay :=
  State.envElapse_induct (P := fun t => t.eiDelay = s.eiDelay) (fun t x v h => (State.deviceSet_eiDelay t x v).trans h) (fun _ _ h => h) (fun _ _ h => h) rfl
@[simp] theorem State.envElapse_fault (s : State) : s.envElapse.fault = s.fault :=
  State.envElapse_induct (P := fun t => t.fault = s.fault) (fun t x v h => (State.deviceSet_fault t x v).trans h) (fun _ _ h => h) (fun _ _ h => h) rfl
@[simp] theorem State.envElapse_bootRom (s : State) : s.envElapse.bootRom = s.bootRom :=
  State.envElapse_induct (P := fun t => t.bootRom = s.bootRom) (fun t x v h => (State.deviceSet_bootRom t x v).trans h) (fun _ _ h => h) (fun _ _ h => h) rfl
@[simp] theorem State.envElapse_cost (s : State) : s.envElapse.cost = s.cost :=
  State.envElapse_induct (P := fun t => t.cost = s.cost) (fun t x v h => (State.deviceSet_cost t x v).trans h) (fun _ _ h => h) (fun _ _ h => h) rfl
@[simp] theorem State.envElapse_params (s : State) : s.envElapse.params = s.params :=
  State.envElapse_induct (P := fun t => t.params = s.params) (fun t x v h => (State.deviceSet_params t x v).trans h) (fun _ _ h => h) (fun _ _ h => h) rfl
@[simp] theorem State.envElapse_sp (s : State) : s.envElapse.sp = s.sp :=
  State.envElapse_induct (P := fun t => t.sp = s.sp) (fun t x v h => (State.deviceSet_sp t x v).trans h) (fun _ _ h => h) (fun _ _ h => h) rfl
@[simp] theorem State.envElapse_overlay (s : State) : s.envElapse.overlay = s.overlay :=
  State.envElapse_induct (P := fun t => t.overlay = s.overlay) (fun t x v h => (State.deviceSet_overlay t x v).trans h) (fun _ _ h => h) (fun _ _ h => h) rfl
@[simp] theorem State.envElapse_timer (s : State) : s.envElapse.timer = s.timer :=
  State.envElapse_induct (P := fun t => t.timer = s.timer) (fun t x v h => (State.deviceSet_timer t x v).trans h) (fun _ _ h => h) (fun _ _ h => h) rfl
@[simp] theorem State.envElapse_answers (s : State) : s.envElapse.answers = s.answers :=
  State.envElapse_induct (P := fun t => t.answers = s.answers) (fun t x v h => (State.deviceSet_answers t x v).trans h) (fun _ _ h => h) (fun _ _ h => h) rfl
@[simp] theorem State.envElapse_draws (s : State) : s.envElapse.draws = s.draws :=
  State.envElapse_induct (P := fun t => t.draws = s.draws) (fun t x v h => (State.deviceSet_draws t x v).trans h) (fun _ _ h => h) (fun _ _ h => h) rfl

@[simp] theorem State.elapse_a (s : State) : s.elapse.a = s.a := by simp [State.elapse]
@[simp] theorem State.elapse_f (s : State) : s.elapse.f = s.f := by simp [State.elapse]
@[simp] theorem State.elapse_b (s : State) : s.elapse.b = s.b := by simp [State.elapse]
@[simp] theorem State.elapse_c (s : State) : s.elapse.c = s.c := by simp [State.elapse]
@[simp] theorem State.elapse_d (s : State) : s.elapse.d = s.d := by simp [State.elapse]
@[simp] theorem State.elapse_e (s : State) : s.elapse.e = s.e := by simp [State.elapse]
@[simp] theorem State.elapse_h (s : State) : s.elapse.h = s.h := by simp [State.elapse]
@[simp] theorem State.elapse_l (s : State) : s.elapse.l = s.l := by simp [State.elapse]
@[simp] theorem State.elapse_pc (s : State) : s.elapse.pc = s.pc := by simp [State.elapse]
@[simp] theorem State.elapse_ime (s : State) : s.elapse.ime = s.ime := by simp [State.elapse]
@[simp] theorem State.elapse_halted (s : State) : s.elapse.halted = s.halted := by simp [State.elapse]
@[simp] theorem State.elapse_eiDelay (s : State) : s.elapse.eiDelay = s.eiDelay := by simp [State.elapse]
@[simp] theorem State.elapse_fault (s : State) : s.elapse.fault = s.fault := by simp [State.elapse]
@[simp] theorem State.elapse_bootRom (s : State) : s.elapse.bootRom = s.bootRom := by simp [State.elapse]
@[simp] theorem State.elapse_cost (s : State) : s.elapse.cost = s.cost := by simp [State.elapse]
@[simp] theorem State.elapse_params (s : State) : s.elapse.params = s.params := by simp [State.elapse]
@[simp] theorem State.elapse_sp (s : State) : s.elapse.sp = s.sp := by simp [State.elapse]
@[simp] theorem State.elapse_overlay (s : State) : s.elapse.overlay = s.overlay := by simp [State.elapse]
@[simp] theorem State.elapse_answers (s : State) : s.elapse.answers = s.answers := by simp [State.elapse]
@[simp] theorem State.elapse_draws (s : State) : s.elapse.draws = s.draws := by simp [State.elapse]
@[simp] theorem State.elapse_env (s : State) : s.elapse.env = s.env.tail := by simp [State.elapse]

theorem State.elapse_memOk {s : State} (h : s.memOk = true) : s.elapse.memOk = true := by
  refine State.envElapse_induct (P := fun t => t.memOk = true) (fun t x v ht => State.deviceSet_memOk ht x v)
    (fun _ _ ht => ht) (fun _ _ ht => ht) ?_
  simpa [State.memOk] using h

theorem State.elapse_phasesOk {s : State} (h : s.timer.PhasesOk) : s.elapse.timer.PhasesOk := by
  simp only [State.elapse, State.envElapse_timer]
  unfold State.timerElapse
  split
  · exact Timer.advance_phasesOk h _
  · exact h

end Sys2Proof.Machine
end

