-- ==== Sys2Proof/Laws/PerInstr.lean ====
section
/-! SUPPORT. Facts about every instruction as syntax, one lemma a constructor. -/

namespace Sys2Proof

/-- The decoder reads back what the encoder wrote, and leaves the bytes after it (spec/30_encoding.md R308, R309). -/
def Laws.RoundTrip.Statement (i : Instr) : Prop :=
  i.wellFormed = true → ∀ rest : List Byte, decode (encode i ++ rest) = .ok i rest

theorem Laws.RoundTrip.nop : Laws.RoundTrip.Statement .nop := fun _ _ => rfl
theorem Laws.RoundTrip.ldBcN16 (n : Word) : Laws.RoundTrip.Statement (.ldBcN16 n) := fun _ rest =>
  show DecodeResult.ok (.ldBcN16 (Word.ofBytes n.hi n.lo)) rest = _ from by rw [Machine.Word_ofBytes_hi_lo]
theorem Laws.RoundTrip.ldMemBcA : Laws.RoundTrip.Statement .ldMemBcA := fun _ _ => rfl
theorem Laws.RoundTrip.incBc : Laws.RoundTrip.Statement .incBc := fun _ _ => rfl
theorem Laws.RoundTrip.incB : Laws.RoundTrip.Statement .incB := fun _ _ => rfl
theorem Laws.RoundTrip.decB : Laws.RoundTrip.Statement .decB := fun _ _ => rfl
theorem Laws.RoundTrip.ldBN8 (n : Byte) : Laws.RoundTrip.Statement (.ldBN8 n) := fun _ _ => rfl
theorem Laws.RoundTrip.rlca : Laws.RoundTrip.Statement .rlca := fun _ _ => rfl
theorem Laws.RoundTrip.ldMemA16Sp (a : Word) : Laws.RoundTrip.Statement (.ldMemA16Sp a) := fun _ rest =>
  show DecodeResult.ok (.ldMemA16Sp (Word.ofBytes a.hi a.lo)) rest = _ from by rw [Machine.Word_ofBytes_hi_lo]
theorem Laws.RoundTrip.addHlBc : Laws.RoundTrip.Statement .addHlBc := fun _ _ => rfl
theorem Laws.RoundTrip.ldAMemBc : Laws.RoundTrip.Statement .ldAMemBc := fun _ _ => rfl
theorem Laws.RoundTrip.decBc : Laws.RoundTrip.Statement .decBc := fun _ _ => rfl
theorem Laws.RoundTrip.incC : Laws.RoundTrip.Statement .incC := fun _ _ => rfl
theorem Laws.RoundTrip.decC : Laws.RoundTrip.Statement .decC := fun _ _ => rfl
theorem Laws.RoundTrip.ldCN8 (n : Byte) : Laws.RoundTrip.Statement (.ldCN8 n) := fun _ _ => rfl
theorem Laws.RoundTrip.rrca : Laws.RoundTrip.Statement .rrca := fun _ _ => rfl
theorem Laws.RoundTrip.stop (n : Byte) : Laws.RoundTrip.Statement (.stop n) := fun _ _ => rfl
theorem Laws.RoundTrip.ldDeN16 (n : Word) : Laws.RoundTrip.Statement (.ldDeN16 n) := fun _ rest =>
  show DecodeResult.ok (.ldDeN16 (Word.ofBytes n.hi n.lo)) rest = _ from by rw [Machine.Word_ofBytes_hi_lo]
theorem Laws.RoundTrip.ldMemDeA : Laws.RoundTrip.Statement .ldMemDeA := fun _ _ => rfl
theorem Laws.RoundTrip.incDe : Laws.RoundTrip.Statement .incDe := fun _ _ => rfl
theorem Laws.RoundTrip.incD : Laws.RoundTrip.Statement .incD := fun _ _ => rfl
theorem Laws.RoundTrip.decD : Laws.RoundTrip.Statement .decD := fun _ _ => rfl
theorem Laws.RoundTrip.ldDN8 (n : Byte) : Laws.RoundTrip.Statement (.ldDN8 n) := fun _ _ => rfl
theorem Laws.RoundTrip.rla : Laws.RoundTrip.Statement .rla := fun _ _ => rfl
theorem Laws.RoundTrip.jrE8 (e : Byte) : Laws.RoundTrip.Statement (.jrE8 e) := fun _ _ => rfl
theorem Laws.RoundTrip.addHlDe : Laws.RoundTrip.Statement .addHlDe := fun _ _ => rfl
theorem Laws.RoundTrip.ldAMemDe : Laws.RoundTrip.Statement .ldAMemDe := fun _ _ => rfl
theorem Laws.RoundTrip.decDe : Laws.RoundTrip.Statement .decDe := fun _ _ => rfl
theorem Laws.RoundTrip.incE : Laws.RoundTrip.Statement .incE := fun _ _ => rfl
theorem Laws.RoundTrip.decE : Laws.RoundTrip.Statement .decE := fun _ _ => rfl
theorem Laws.RoundTrip.ldEN8 (n : Byte) : Laws.RoundTrip.Statement (.ldEN8 n) := fun _ _ => rfl
theorem Laws.RoundTrip.rra : Laws.RoundTrip.Statement .rra := fun _ _ => rfl
theorem Laws.RoundTrip.jrNzE8 (e : Byte) : Laws.RoundTrip.Statement (.jrNzE8 e) := fun _ _ => rfl
theorem Laws.RoundTrip.ldHlN16 (n : Word) : Laws.RoundTrip.Statement (.ldHlN16 n) := fun _ rest =>
  show DecodeResult.ok (.ldHlN16 (Word.ofBytes n.hi n.lo)) rest = _ from by rw [Machine.Word_ofBytes_hi_lo]
theorem Laws.RoundTrip.ldMemHlIncA : Laws.RoundTrip.Statement .ldMemHlIncA := fun _ _ => rfl
theorem Laws.RoundTrip.incHl : Laws.RoundTrip.Statement .incHl := fun _ _ => rfl
theorem Laws.RoundTrip.incH : Laws.RoundTrip.Statement .incH := fun _ _ => rfl
theorem Laws.RoundTrip.decH : Laws.RoundTrip.Statement .decH := fun _ _ => rfl
theorem Laws.RoundTrip.ldHN8 (n : Byte) : Laws.RoundTrip.Statement (.ldHN8 n) := fun _ _ => rfl
theorem Laws.RoundTrip.daa : Laws.RoundTrip.Statement .daa := fun _ _ => rfl
theorem Laws.RoundTrip.jrZE8 (e : Byte) : Laws.RoundTrip.Statement (.jrZE8 e) := fun _ _ => rfl
theorem Laws.RoundTrip.addHlHl : Laws.RoundTrip.Statement .addHlHl := fun _ _ => rfl
theorem Laws.RoundTrip.ldAMemHlInc : Laws.RoundTrip.Statement .ldAMemHlInc := fun _ _ => rfl
theorem Laws.RoundTrip.decHl : Laws.RoundTrip.Statement .decHl := fun _ _ => rfl
theorem Laws.RoundTrip.incL : Laws.RoundTrip.Statement .incL := fun _ _ => rfl
theorem Laws.RoundTrip.decL : Laws.RoundTrip.Statement .decL := fun _ _ => rfl
theorem Laws.RoundTrip.ldLN8 (n : Byte) : Laws.RoundTrip.Statement (.ldLN8 n) := fun _ _ => rfl
theorem Laws.RoundTrip.cpl : Laws.RoundTrip.Statement .cpl := fun _ _ => rfl
theorem Laws.RoundTrip.jrNcE8 (e : Byte) : Laws.RoundTrip.Statement (.jrNcE8 e) := fun _ _ => rfl
theorem Laws.RoundTrip.ldSpN16 (n : Word) : Laws.RoundTrip.Statement (.ldSpN16 n) := fun _ rest =>
  show DecodeResult.ok (.ldSpN16 (Word.ofBytes n.hi n.lo)) rest = _ from by rw [Machine.Word_ofBytes_hi_lo]
theorem Laws.RoundTrip.ldMemHlDecA : Laws.RoundTrip.Statement .ldMemHlDecA := fun _ _ => rfl
theorem Laws.RoundTrip.incSp : Laws.RoundTrip.Statement .incSp := fun _ _ => rfl
theorem Laws.RoundTrip.incMemHl : Laws.RoundTrip.Statement .incMemHl := fun _ _ => rfl
theorem Laws.RoundTrip.decMemHl : Laws.RoundTrip.Statement .decMemHl := fun _ _ => rfl
theorem Laws.RoundTrip.ldMemHlN8 (n : Byte) : Laws.RoundTrip.Statement (.ldMemHlN8 n) := fun _ _ => rfl
theorem Laws.RoundTrip.scf : Laws.RoundTrip.Statement .scf := fun _ _ => rfl
theorem Laws.RoundTrip.jrCE8 (e : Byte) : Laws.RoundTrip.Statement (.jrCE8 e) := fun _ _ => rfl
theorem Laws.RoundTrip.addHlSp : Laws.RoundTrip.Statement .addHlSp := fun _ _ => rfl
theorem Laws.RoundTrip.ldAMemHlDec : Laws.RoundTrip.Statement .ldAMemHlDec := fun _ _ => rfl
theorem Laws.RoundTrip.decSp : Laws.RoundTrip.Statement .decSp := fun _ _ => rfl
theorem Laws.RoundTrip.incA : Laws.RoundTrip.Statement .incA := fun _ _ => rfl
theorem Laws.RoundTrip.decA : Laws.RoundTrip.Statement .decA := fun _ _ => rfl
theorem Laws.RoundTrip.ldAN8 (n : Byte) : Laws.RoundTrip.Statement (.ldAN8 n) := fun _ _ => rfl
theorem Laws.RoundTrip.ccf : Laws.RoundTrip.Statement .ccf := fun _ _ => rfl
theorem Laws.RoundTrip.ldBB : Laws.RoundTrip.Statement .ldBB := fun _ _ => rfl
theorem Laws.RoundTrip.ldBC : Laws.RoundTrip.Statement .ldBC := fun _ _ => rfl
theorem Laws.RoundTrip.ldBD : Laws.RoundTrip.Statement .ldBD := fun _ _ => rfl
theorem Laws.RoundTrip.ldBE : Laws.RoundTrip.Statement .ldBE := fun _ _ => rfl
theorem Laws.RoundTrip.ldBH : Laws.RoundTrip.Statement .ldBH := fun _ _ => rfl
theorem Laws.RoundTrip.ldBL : Laws.RoundTrip.Statement .ldBL := fun _ _ => rfl
theorem Laws.RoundTrip.ldBMemHl : Laws.RoundTrip.Statement .ldBMemHl := fun _ _ => rfl
theorem Laws.RoundTrip.ldBA : Laws.RoundTrip.Statement .ldBA := fun _ _ => rfl
theorem Laws.RoundTrip.ldCB : Laws.RoundTrip.Statement .ldCB := fun _ _ => rfl
theorem Laws.RoundTrip.ldCC : Laws.RoundTrip.Statement .ldCC := fun _ _ => rfl
theorem Laws.RoundTrip.ldCD : Laws.RoundTrip.Statement .ldCD := fun _ _ => rfl
theorem Laws.RoundTrip.ldCE : Laws.RoundTrip.Statement .ldCE := fun _ _ => rfl
theorem Laws.RoundTrip.ldCH : Laws.RoundTrip.Statement .ldCH := fun _ _ => rfl
theorem Laws.RoundTrip.ldCL : Laws.RoundTrip.Statement .ldCL := fun _ _ => rfl
theorem Laws.RoundTrip.ldCMemHl : Laws.RoundTrip.Statement .ldCMemHl := fun _ _ => rfl
theorem Laws.RoundTrip.ldCA : Laws.RoundTrip.Statement .ldCA := fun _ _ => rfl
theorem Laws.RoundTrip.ldDB : Laws.RoundTrip.Statement .ldDB := fun _ _ => rfl
theorem Laws.RoundTrip.ldDC : Laws.RoundTrip.Statement .ldDC := fun _ _ => rfl
theorem Laws.RoundTrip.ldDD : Laws.RoundTrip.Statement .ldDD := fun _ _ => rfl
theorem Laws.RoundTrip.ldDE : Laws.RoundTrip.Statement .ldDE := fun _ _ => rfl
theorem Laws.RoundTrip.ldDH : Laws.RoundTrip.Statement .ldDH := fun _ _ => rfl
theorem Laws.RoundTrip.ldDL : Laws.RoundTrip.Statement .ldDL := fun _ _ => rfl
theorem Laws.RoundTrip.ldDMemHl : Laws.RoundTrip.Statement .ldDMemHl := fun _ _ => rfl
theorem Laws.RoundTrip.ldDA : Laws.RoundTrip.Statement .ldDA := fun _ _ => rfl
theorem Laws.RoundTrip.ldEB : Laws.RoundTrip.Statement .ldEB := fun _ _ => rfl
theorem Laws.RoundTrip.ldEC : Laws.RoundTrip.Statement .ldEC := fun _ _ => rfl
theorem Laws.RoundTrip.ldED : Laws.RoundTrip.Statement .ldED := fun _ _ => rfl
theorem Laws.RoundTrip.ldEE : Laws.RoundTrip.Statement .ldEE := fun _ _ => rfl
theorem Laws.RoundTrip.ldEH : Laws.RoundTrip.Statement .ldEH := fun _ _ => rfl
theorem Laws.RoundTrip.ldEL : Laws.RoundTrip.Statement .ldEL := fun _ _ => rfl
theorem Laws.RoundTrip.ldEMemHl : Laws.RoundTrip.Statement .ldEMemHl := fun _ _ => rfl
theorem Laws.RoundTrip.ldEA : Laws.RoundTrip.Statement .ldEA := fun _ _ => rfl
theorem Laws.RoundTrip.ldHB : Laws.RoundTrip.Statement .ldHB := fun _ _ => rfl
theorem Laws.RoundTrip.ldHC : Laws.RoundTrip.Statement .ldHC := fun _ _ => rfl
theorem Laws.RoundTrip.ldHD : Laws.RoundTrip.Statement .ldHD := fun _ _ => rfl
theorem Laws.RoundTrip.ldHE : Laws.RoundTrip.Statement .ldHE := fun _ _ => rfl
theorem Laws.RoundTrip.ldHH : Laws.RoundTrip.Statement .ldHH := fun _ _ => rfl
theorem Laws.RoundTrip.ldHL : Laws.RoundTrip.Statement .ldHL := fun _ _ => rfl
theorem Laws.RoundTrip.ldHMemHl : Laws.RoundTrip.Statement .ldHMemHl := fun _ _ => rfl
theorem Laws.RoundTrip.ldHA : Laws.RoundTrip.Statement .ldHA := fun _ _ => rfl
theorem Laws.RoundTrip.ldLB : Laws.RoundTrip.Statement .ldLB := fun _ _ => rfl
theorem Laws.RoundTrip.ldLC : Laws.RoundTrip.Statement .ldLC := fun _ _ => rfl
theorem Laws.RoundTrip.ldLD : Laws.RoundTrip.Statement .ldLD := fun _ _ => rfl
theorem Laws.RoundTrip.ldLE : Laws.RoundTrip.Statement .ldLE := fun _ _ => rfl
theorem Laws.RoundTrip.ldLH : Laws.RoundTrip.Statement .ldLH := fun _ _ => rfl
theorem Laws.RoundTrip.ldLL : Laws.RoundTrip.Statement .ldLL := fun _ _ => rfl
theorem Laws.RoundTrip.ldLMemHl : Laws.RoundTrip.Statement .ldLMemHl := fun _ _ => rfl
theorem Laws.RoundTrip.ldLA : Laws.RoundTrip.Statement .ldLA := fun _ _ => rfl
theorem Laws.RoundTrip.ldMemHlB : Laws.RoundTrip.Statement .ldMemHlB := fun _ _ => rfl
theorem Laws.RoundTrip.ldMemHlC : Laws.RoundTrip.Statement .ldMemHlC := fun _ _ => rfl
theorem Laws.RoundTrip.ldMemHlD : Laws.RoundTrip.Statement .ldMemHlD := fun _ _ => rfl
theorem Laws.RoundTrip.ldMemHlE : Laws.RoundTrip.Statement .ldMemHlE := fun _ _ => rfl
theorem Laws.RoundTrip.ldMemHlH : Laws.RoundTrip.Statement .ldMemHlH := fun _ _ => rfl
theorem Laws.RoundTrip.ldMemHlL : Laws.RoundTrip.Statement .ldMemHlL := fun _ _ => rfl
theorem Laws.RoundTrip.halt : Laws.RoundTrip.Statement .halt := fun _ _ => rfl
theorem Laws.RoundTrip.ldMemHlA : Laws.RoundTrip.Statement .ldMemHlA := fun _ _ => rfl
theorem Laws.RoundTrip.ldAB : Laws.RoundTrip.Statement .ldAB := fun _ _ => rfl
theorem Laws.RoundTrip.ldAC : Laws.RoundTrip.Statement .ldAC := fun _ _ => rfl
theorem Laws.RoundTrip.ldAD : Laws.RoundTrip.Statement .ldAD := fun _ _ => rfl
theorem Laws.RoundTrip.ldAE : Laws.RoundTrip.Statement .ldAE := fun _ _ => rfl
theorem Laws.RoundTrip.ldAH : Laws.RoundTrip.Statement .ldAH := fun _ _ => rfl
theorem Laws.RoundTrip.ldAL : Laws.RoundTrip.Statement .ldAL := fun _ _ => rfl
theorem Laws.RoundTrip.ldAMemHl : Laws.RoundTrip.Statement .ldAMemHl := fun _ _ => rfl
theorem Laws.RoundTrip.ldAA : Laws.RoundTrip.Statement .ldAA := fun _ _ => rfl
theorem Laws.RoundTrip.addAB : Laws.RoundTrip.Statement .addAB := fun _ _ => rfl
theorem Laws.RoundTrip.addAC : Laws.RoundTrip.Statement .addAC := fun _ _ => rfl
theorem Laws.RoundTrip.addAD : Laws.RoundTrip.Statement .addAD := fun _ _ => rfl
theorem Laws.RoundTrip.addAE : Laws.RoundTrip.Statement .addAE := fun _ _ => rfl
theorem Laws.RoundTrip.addAH : Laws.RoundTrip.Statement .addAH := fun _ _ => rfl
theorem Laws.RoundTrip.addAL : Laws.RoundTrip.Statement .addAL := fun _ _ => rfl
theorem Laws.RoundTrip.addAMemHl : Laws.RoundTrip.Statement .addAMemHl := fun _ _ => rfl
theorem Laws.RoundTrip.addAA : Laws.RoundTrip.Statement .addAA := fun _ _ => rfl
theorem Laws.RoundTrip.adcAB : Laws.RoundTrip.Statement .adcAB := fun _ _ => rfl
theorem Laws.RoundTrip.adcAC : Laws.RoundTrip.Statement .adcAC := fun _ _ => rfl
theorem Laws.RoundTrip.adcAD : Laws.RoundTrip.Statement .adcAD := fun _ _ => rfl
theorem Laws.RoundTrip.adcAE : Laws.RoundTrip.Statement .adcAE := fun _ _ => rfl
theorem Laws.RoundTrip.adcAH : Laws.RoundTrip.Statement .adcAH := fun _ _ => rfl
theorem Laws.RoundTrip.adcAL : Laws.RoundTrip.Statement .adcAL := fun _ _ => rfl
theorem Laws.RoundTrip.adcAMemHl : Laws.RoundTrip.Statement .adcAMemHl := fun _ _ => rfl
theorem Laws.RoundTrip.adcAA : Laws.RoundTrip.Statement .adcAA := fun _ _ => rfl
theorem Laws.RoundTrip.subB : Laws.RoundTrip.Statement .subB := fun _ _ => rfl
theorem Laws.RoundTrip.subC : Laws.RoundTrip.Statement .subC := fun _ _ => rfl
theorem Laws.RoundTrip.subD : Laws.RoundTrip.Statement .subD := fun _ _ => rfl
theorem Laws.RoundTrip.subE : Laws.RoundTrip.Statement .subE := fun _ _ => rfl
theorem Laws.RoundTrip.subH : Laws.RoundTrip.Statement .subH := fun _ _ => rfl
theorem Laws.RoundTrip.subL : Laws.RoundTrip.Statement .subL := fun _ _ => rfl
theorem Laws.RoundTrip.subMemHl : Laws.RoundTrip.Statement .subMemHl := fun _ _ => rfl
theorem Laws.RoundTrip.subA : Laws.RoundTrip.Statement .subA := fun _ _ => rfl
theorem Laws.RoundTrip.sbcAB : Laws.RoundTrip.Statement .sbcAB := fun _ _ => rfl
theorem Laws.RoundTrip.sbcAC : Laws.RoundTrip.Statement .sbcAC := fun _ _ => rfl
theorem Laws.RoundTrip.sbcAD : Laws.RoundTrip.Statement .sbcAD := fun _ _ => rfl
theorem Laws.RoundTrip.sbcAE : Laws.RoundTrip.Statement .sbcAE := fun _ _ => rfl
theorem Laws.RoundTrip.sbcAH : Laws.RoundTrip.Statement .sbcAH := fun _ _ => rfl
theorem Laws.RoundTrip.sbcAL : Laws.RoundTrip.Statement .sbcAL := fun _ _ => rfl
theorem Laws.RoundTrip.sbcAMemHl : Laws.RoundTrip.Statement .sbcAMemHl := fun _ _ => rfl
theorem Laws.RoundTrip.sbcAA : Laws.RoundTrip.Statement .sbcAA := fun _ _ => rfl
theorem Laws.RoundTrip.andB : Laws.RoundTrip.Statement .andB := fun _ _ => rfl
theorem Laws.RoundTrip.andC : Laws.RoundTrip.Statement .andC := fun _ _ => rfl
theorem Laws.RoundTrip.andD : Laws.RoundTrip.Statement .andD := fun _ _ => rfl
theorem Laws.RoundTrip.andE : Laws.RoundTrip.Statement .andE := fun _ _ => rfl
theorem Laws.RoundTrip.andH : Laws.RoundTrip.Statement .andH := fun _ _ => rfl
theorem Laws.RoundTrip.andL : Laws.RoundTrip.Statement .andL := fun _ _ => rfl
theorem Laws.RoundTrip.andMemHl : Laws.RoundTrip.Statement .andMemHl := fun _ _ => rfl
theorem Laws.RoundTrip.andA : Laws.RoundTrip.Statement .andA := fun _ _ => rfl
theorem Laws.RoundTrip.xorB : Laws.RoundTrip.Statement .xorB := fun _ _ => rfl
theorem Laws.RoundTrip.xorC : Laws.RoundTrip.Statement .xorC := fun _ _ => rfl
theorem Laws.RoundTrip.xorD : Laws.RoundTrip.Statement .xorD := fun _ _ => rfl
theorem Laws.RoundTrip.xorE : Laws.RoundTrip.Statement .xorE := fun _ _ => rfl
theorem Laws.RoundTrip.xorH : Laws.RoundTrip.Statement .xorH := fun _ _ => rfl
theorem Laws.RoundTrip.xorL : Laws.RoundTrip.Statement .xorL := fun _ _ => rfl
theorem Laws.RoundTrip.xorMemHl : Laws.RoundTrip.Statement .xorMemHl := fun _ _ => rfl
theorem Laws.RoundTrip.xorA : Laws.RoundTrip.Statement .xorA := fun _ _ => rfl
theorem Laws.RoundTrip.orB : Laws.RoundTrip.Statement .orB := fun _ _ => rfl
theorem Laws.RoundTrip.orC : Laws.RoundTrip.Statement .orC := fun _ _ => rfl
theorem Laws.RoundTrip.orD : Laws.RoundTrip.Statement .orD := fun _ _ => rfl
theorem Laws.RoundTrip.orE : Laws.RoundTrip.Statement .orE := fun _ _ => rfl
theorem Laws.RoundTrip.orH : Laws.RoundTrip.Statement .orH := fun _ _ => rfl
theorem Laws.RoundTrip.orL : Laws.RoundTrip.Statement .orL := fun _ _ => rfl
theorem Laws.RoundTrip.orMemHl : Laws.RoundTrip.Statement .orMemHl := fun _ _ => rfl
theorem Laws.RoundTrip.orA : Laws.RoundTrip.Statement .orA := fun _ _ => rfl
theorem Laws.RoundTrip.cpB : Laws.RoundTrip.Statement .cpB := fun _ _ => rfl
theorem Laws.RoundTrip.cpC : Laws.RoundTrip.Statement .cpC := fun _ _ => rfl
theorem Laws.RoundTrip.cpD : Laws.RoundTrip.Statement .cpD := fun _ _ => rfl
theorem Laws.RoundTrip.cpE : Laws.RoundTrip.Statement .cpE := fun _ _ => rfl
theorem Laws.RoundTrip.cpH : Laws.RoundTrip.Statement .cpH := fun _ _ => rfl
theorem Laws.RoundTrip.cpL : Laws.RoundTrip.Statement .cpL := fun _ _ => rfl
theorem Laws.RoundTrip.cpMemHl : Laws.RoundTrip.Statement .cpMemHl := fun _ _ => rfl
theorem Laws.RoundTrip.cpA : Laws.RoundTrip.Statement .cpA := fun _ _ => rfl
theorem Laws.RoundTrip.retNz : Laws.RoundTrip.Statement .retNz := fun _ _ => rfl
theorem Laws.RoundTrip.popBc : Laws.RoundTrip.Statement .popBc := fun _ _ => rfl
theorem Laws.RoundTrip.jpNzA16 (a : Word) : Laws.RoundTrip.Statement (.jpNzA16 a) := fun _ rest =>
  show DecodeResult.ok (.jpNzA16 (Word.ofBytes a.hi a.lo)) rest = _ from by rw [Machine.Word_ofBytes_hi_lo]
theorem Laws.RoundTrip.jpA16 (a : Word) : Laws.RoundTrip.Statement (.jpA16 a) := fun _ rest =>
  show DecodeResult.ok (.jpA16 (Word.ofBytes a.hi a.lo)) rest = _ from by rw [Machine.Word_ofBytes_hi_lo]
theorem Laws.RoundTrip.callNzA16 (a : Word) : Laws.RoundTrip.Statement (.callNzA16 a) := fun _ rest =>
  show DecodeResult.ok (.callNzA16 (Word.ofBytes a.hi a.lo)) rest = _ from by rw [Machine.Word_ofBytes_hi_lo]
theorem Laws.RoundTrip.pushBc : Laws.RoundTrip.Statement .pushBc := fun _ _ => rfl
theorem Laws.RoundTrip.addAN8 (n : Byte) : Laws.RoundTrip.Statement (.addAN8 n) := fun _ _ => rfl
theorem Laws.RoundTrip.rst00h : Laws.RoundTrip.Statement .rst00h := fun _ _ => rfl
theorem Laws.RoundTrip.retZ : Laws.RoundTrip.Statement .retZ := fun _ _ => rfl
theorem Laws.RoundTrip.ret : Laws.RoundTrip.Statement .ret := fun _ _ => rfl
theorem Laws.RoundTrip.jpZA16 (a : Word) : Laws.RoundTrip.Statement (.jpZA16 a) := fun _ rest =>
  show DecodeResult.ok (.jpZA16 (Word.ofBytes a.hi a.lo)) rest = _ from by rw [Machine.Word_ofBytes_hi_lo]
theorem Laws.RoundTrip.prefixCb (op : Byte) : Laws.RoundTrip.Statement (.prefixCb op) := fun h => Bool.noConfusion h
theorem Laws.RoundTrip.callZA16 (a : Word) : Laws.RoundTrip.Statement (.callZA16 a) := fun _ rest =>
  show DecodeResult.ok (.callZA16 (Word.ofBytes a.hi a.lo)) rest = _ from by rw [Machine.Word_ofBytes_hi_lo]
theorem Laws.RoundTrip.callA16 (a : Word) : Laws.RoundTrip.Statement (.callA16 a) := fun _ rest =>
  show DecodeResult.ok (.callA16 (Word.ofBytes a.hi a.lo)) rest = _ from by rw [Machine.Word_ofBytes_hi_lo]
theorem Laws.RoundTrip.adcAN8 (n : Byte) : Laws.RoundTrip.Statement (.adcAN8 n) := fun _ _ => rfl
theorem Laws.RoundTrip.rst08h : Laws.RoundTrip.Statement .rst08h := fun _ _ => rfl
theorem Laws.RoundTrip.retNc : Laws.RoundTrip.Statement .retNc := fun _ _ => rfl
theorem Laws.RoundTrip.popDe : Laws.RoundTrip.Statement .popDe := fun _ _ => rfl
theorem Laws.RoundTrip.jpNcA16 (a : Word) : Laws.RoundTrip.Statement (.jpNcA16 a) := fun _ rest =>
  show DecodeResult.ok (.jpNcA16 (Word.ofBytes a.hi a.lo)) rest = _ from by rw [Machine.Word_ofBytes_hi_lo]
theorem Laws.RoundTrip.illegalD3 : Laws.RoundTrip.Statement .illegalD3 := fun _ _ => rfl
theorem Laws.RoundTrip.callNcA16 (a : Word) : Laws.RoundTrip.Statement (.callNcA16 a) := fun _ rest =>
  show DecodeResult.ok (.callNcA16 (Word.ofBytes a.hi a.lo)) rest = _ from by rw [Machine.Word_ofBytes_hi_lo]
theorem Laws.RoundTrip.pushDe : Laws.RoundTrip.Statement .pushDe := fun _ _ => rfl
theorem Laws.RoundTrip.subN8 (n : Byte) : Laws.RoundTrip.Statement (.subN8 n) := fun _ _ => rfl
theorem Laws.RoundTrip.rst10h : Laws.RoundTrip.Statement .rst10h := fun _ _ => rfl
theorem Laws.RoundTrip.retC : Laws.RoundTrip.Statement .retC := fun _ _ => rfl
theorem Laws.RoundTrip.reti : Laws.RoundTrip.Statement .reti := fun _ _ => rfl
theorem Laws.RoundTrip.jpCA16 (a : Word) : Laws.RoundTrip.Statement (.jpCA16 a) := fun _ rest =>
  show DecodeResult.ok (.jpCA16 (Word.ofBytes a.hi a.lo)) rest = _ from by rw [Machine.Word_ofBytes_hi_lo]
theorem Laws.RoundTrip.illegalDB : Laws.RoundTrip.Statement .illegalDB := fun _ _ => rfl
theorem Laws.RoundTrip.callCA16 (a : Word) : Laws.RoundTrip.Statement (.callCA16 a) := fun _ rest =>
  show DecodeResult.ok (.callCA16 (Word.ofBytes a.hi a.lo)) rest = _ from by rw [Machine.Word_ofBytes_hi_lo]
theorem Laws.RoundTrip.illegalDD : Laws.RoundTrip.Statement .illegalDD := fun _ _ => rfl
theorem Laws.RoundTrip.sbcAN8 (n : Byte) : Laws.RoundTrip.Statement (.sbcAN8 n) := fun _ _ => rfl
theorem Laws.RoundTrip.rst18h : Laws.RoundTrip.Statement .rst18h := fun _ _ => rfl
theorem Laws.RoundTrip.ldhMemA8A (n : Byte) : Laws.RoundTrip.Statement (.ldhMemA8A n) := fun _ _ => rfl
theorem Laws.RoundTrip.popHl : Laws.RoundTrip.Statement .popHl := fun _ _ => rfl
theorem Laws.RoundTrip.ldMemCA : Laws.RoundTrip.Statement .ldMemCA := fun _ _ => rfl
theorem Laws.RoundTrip.illegalE3 : Laws.RoundTrip.Statement .illegalE3 := fun _ _ => rfl
theorem Laws.RoundTrip.illegalE4 : Laws.RoundTrip.Statement .illegalE4 := fun _ _ => rfl
theorem Laws.RoundTrip.pushHl : Laws.RoundTrip.Statement .pushHl := fun _ _ => rfl
theorem Laws.RoundTrip.andN8 (n : Byte) : Laws.RoundTrip.Statement (.andN8 n) := fun _ _ => rfl
theorem Laws.RoundTrip.rst20h : Laws.RoundTrip.Statement .rst20h := fun _ _ => rfl
theorem Laws.RoundTrip.addSpE8 (e : Byte) : Laws.RoundTrip.Statement (.addSpE8 e) := fun _ _ => rfl
theorem Laws.RoundTrip.jpHl : Laws.RoundTrip.Statement .jpHl := fun _ _ => rfl
theorem Laws.RoundTrip.ldMemA16A (a : Word) : Laws.RoundTrip.Statement (.ldMemA16A a) := fun _ rest =>
  show DecodeResult.ok (.ldMemA16A (Word.ofBytes a.hi a.lo)) rest = _ from by rw [Machine.Word_ofBytes_hi_lo]
theorem Laws.RoundTrip.illegalEB : Laws.RoundTrip.Statement .illegalEB := fun _ _ => rfl
theorem Laws.RoundTrip.illegalEC : Laws.RoundTrip.Statement .illegalEC := fun _ _ => rfl
theorem Laws.RoundTrip.illegalED : Laws.RoundTrip.Statement .illegalED := fun _ _ => rfl
theorem Laws.RoundTrip.xorN8 (n : Byte) : Laws.RoundTrip.Statement (.xorN8 n) := fun _ _ => rfl
theorem Laws.RoundTrip.rst28h : Laws.RoundTrip.Statement .rst28h := fun _ _ => rfl
theorem Laws.RoundTrip.ldhAMemA8 (n : Byte) : Laws.RoundTrip.Statement (.ldhAMemA8 n) := fun _ _ => rfl
theorem Laws.RoundTrip.popAf : Laws.RoundTrip.Statement .popAf := fun _ _ => rfl
theorem Laws.RoundTrip.ldAMemC : Laws.RoundTrip.Statement .ldAMemC := fun _ _ => rfl
theorem Laws.RoundTrip.di : Laws.RoundTrip.Statement .di := fun _ _ => rfl
theorem Laws.RoundTrip.illegalF4 : Laws.RoundTrip.Statement .illegalF4 := fun _ _ => rfl
theorem Laws.RoundTrip.pushAf : Laws.RoundTrip.Statement .pushAf := fun _ _ => rfl
theorem Laws.RoundTrip.orN8 (n : Byte) : Laws.RoundTrip.Statement (.orN8 n) := fun _ _ => rfl
theorem Laws.RoundTrip.rst30h : Laws.RoundTrip.Statement .rst30h := fun _ _ => rfl
theorem Laws.RoundTrip.ldHlSpE8 (e : Byte) : Laws.RoundTrip.Statement (.ldHlSpE8 e) := fun _ _ => rfl
theorem Laws.RoundTrip.ldSpHl : Laws.RoundTrip.Statement .ldSpHl := fun _ _ => rfl
theorem Laws.RoundTrip.ldAMemA16 (a : Word) : Laws.RoundTrip.Statement (.ldAMemA16 a) := fun _ rest =>
  show DecodeResult.ok (.ldAMemA16 (Word.ofBytes a.hi a.lo)) rest = _ from by rw [Machine.Word_ofBytes_hi_lo]
theorem Laws.RoundTrip.ei : Laws.RoundTrip.Statement .ei := fun _ _ => rfl
theorem Laws.RoundTrip.illegalFC : Laws.RoundTrip.Statement .illegalFC := fun _ _ => rfl
theorem Laws.RoundTrip.illegalFD : Laws.RoundTrip.Statement .illegalFD := fun _ _ => rfl
theorem Laws.RoundTrip.cpN8 (n : Byte) : Laws.RoundTrip.Statement (.cpN8 n) := fun _ _ => rfl
theorem Laws.RoundTrip.rst38h : Laws.RoundTrip.Statement .rst38h := fun _ _ => rfl
theorem Laws.RoundTrip.rlcB : Laws.RoundTrip.Statement .rlcB := fun _ _ => rfl
theorem Laws.RoundTrip.rlcC : Laws.RoundTrip.Statement .rlcC := fun _ _ => rfl
theorem Laws.RoundTrip.rlcD : Laws.RoundTrip.Statement .rlcD := fun _ _ => rfl
theorem Laws.RoundTrip.rlcE : Laws.RoundTrip.Statement .rlcE := fun _ _ => rfl
theorem Laws.RoundTrip.rlcH : Laws.RoundTrip.Statement .rlcH := fun _ _ => rfl
theorem Laws.RoundTrip.rlcL : Laws.RoundTrip.Statement .rlcL := fun _ _ => rfl
theorem Laws.RoundTrip.rlcMemHl : Laws.RoundTrip.Statement .rlcMemHl := fun _ _ => rfl
theorem Laws.RoundTrip.rlcA : Laws.RoundTrip.Statement .rlcA := fun _ _ => rfl
theorem Laws.RoundTrip.rrcB : Laws.RoundTrip.Statement .rrcB := fun _ _ => rfl
theorem Laws.RoundTrip.rrcC : Laws.RoundTrip.Statement .rrcC := fun _ _ => rfl
theorem Laws.RoundTrip.rrcD : Laws.RoundTrip.Statement .rrcD := fun _ _ => rfl
theorem Laws.RoundTrip.rrcE : Laws.RoundTrip.Statement .rrcE := fun _ _ => rfl
theorem Laws.RoundTrip.rrcH : Laws.RoundTrip.Statement .rrcH := fun _ _ => rfl
theorem Laws.RoundTrip.rrcL : Laws.RoundTrip.Statement .rrcL := fun _ _ => rfl
theorem Laws.RoundTrip.rrcMemHl : Laws.RoundTrip.Statement .rrcMemHl := fun _ _ => rfl
theorem Laws.RoundTrip.rrcA : Laws.RoundTrip.Statement .rrcA := fun _ _ => rfl
theorem Laws.RoundTrip.rlB : Laws.RoundTrip.Statement .rlB := fun _ _ => rfl
theorem Laws.RoundTrip.rlC : Laws.RoundTrip.Statement .rlC := fun _ _ => rfl
theorem Laws.RoundTrip.rlD : Laws.RoundTrip.Statement .rlD := fun _ _ => rfl
theorem Laws.RoundTrip.rlE : Laws.RoundTrip.Statement .rlE := fun _ _ => rfl
theorem Laws.RoundTrip.rlH : Laws.RoundTrip.Statement .rlH := fun _ _ => rfl
theorem Laws.RoundTrip.rlL : Laws.RoundTrip.Statement .rlL := fun _ _ => rfl
theorem Laws.RoundTrip.rlMemHl : Laws.RoundTrip.Statement .rlMemHl := fun _ _ => rfl
theorem Laws.RoundTrip.rlA : Laws.RoundTrip.Statement .rlA := fun _ _ => rfl
theorem Laws.RoundTrip.rrB : Laws.RoundTrip.Statement .rrB := fun _ _ => rfl
theorem Laws.RoundTrip.rrC : Laws.RoundTrip.Statement .rrC := fun _ _ => rfl
theorem Laws.RoundTrip.rrD : Laws.RoundTrip.Statement .rrD := fun _ _ => rfl
theorem Laws.RoundTrip.rrE : Laws.RoundTrip.Statement .rrE := fun _ _ => rfl
theorem Laws.RoundTrip.rrH : Laws.RoundTrip.Statement .rrH := fun _ _ => rfl
theorem Laws.RoundTrip.rrL : Laws.RoundTrip.Statement .rrL := fun _ _ => rfl
theorem Laws.RoundTrip.rrMemHl : Laws.RoundTrip.Statement .rrMemHl := fun _ _ => rfl
theorem Laws.RoundTrip.rrA : Laws.RoundTrip.Statement .rrA := fun _ _ => rfl
theorem Laws.RoundTrip.slaB : Laws.RoundTrip.Statement .slaB := fun _ _ => rfl
theorem Laws.RoundTrip.slaC : Laws.RoundTrip.Statement .slaC := fun _ _ => rfl
theorem Laws.RoundTrip.slaD : Laws.RoundTrip.Statement .slaD := fun _ _ => rfl
theorem Laws.RoundTrip.slaE : Laws.RoundTrip.Statement .slaE := fun _ _ => rfl
theorem Laws.RoundTrip.slaH : Laws.RoundTrip.Statement .slaH := fun _ _ => rfl
theorem Laws.RoundTrip.slaL : Laws.RoundTrip.Statement .slaL := fun _ _ => rfl
theorem Laws.RoundTrip.slaMemHl : Laws.RoundTrip.Statement .slaMemHl := fun _ _ => rfl
theorem Laws.RoundTrip.slaA : Laws.RoundTrip.Statement .slaA := fun _ _ => rfl
theorem Laws.RoundTrip.sraB : Laws.RoundTrip.Statement .sraB := fun _ _ => rfl
theorem Laws.RoundTrip.sraC : Laws.RoundTrip.Statement .sraC := fun _ _ => rfl
theorem Laws.RoundTrip.sraD : Laws.RoundTrip.Statement .sraD := fun _ _ => rfl
theorem Laws.RoundTrip.sraE : Laws.RoundTrip.Statement .sraE := fun _ _ => rfl
theorem Laws.RoundTrip.sraH : Laws.RoundTrip.Statement .sraH := fun _ _ => rfl
theorem Laws.RoundTrip.sraL : Laws.RoundTrip.Statement .sraL := fun _ _ => rfl
theorem Laws.RoundTrip.sraMemHl : Laws.RoundTrip.Statement .sraMemHl := fun _ _ => rfl
theorem Laws.RoundTrip.sraA : Laws.RoundTrip.Statement .sraA := fun _ _ => rfl
theorem Laws.RoundTrip.swapB : Laws.RoundTrip.Statement .swapB := fun _ _ => rfl
theorem Laws.RoundTrip.swapC : Laws.RoundTrip.Statement .swapC := fun _ _ => rfl
theorem Laws.RoundTrip.swapD : Laws.RoundTrip.Statement .swapD := fun _ _ => rfl
theorem Laws.RoundTrip.swapE : Laws.RoundTrip.Statement .swapE := fun _ _ => rfl
theorem Laws.RoundTrip.swapH : Laws.RoundTrip.Statement .swapH := fun _ _ => rfl
theorem Laws.RoundTrip.swapL : Laws.RoundTrip.Statement .swapL := fun _ _ => rfl
theorem Laws.RoundTrip.swapMemHl : Laws.RoundTrip.Statement .swapMemHl := fun _ _ => rfl
theorem Laws.RoundTrip.swapA : Laws.RoundTrip.Statement .swapA := fun _ _ => rfl
theorem Laws.RoundTrip.srlB : Laws.RoundTrip.Statement .srlB := fun _ _ => rfl
theorem Laws.RoundTrip.srlC : Laws.RoundTrip.Statement .srlC := fun _ _ => rfl
theorem Laws.RoundTrip.srlD : Laws.RoundTrip.Statement .srlD := fun _ _ => rfl
theorem Laws.RoundTrip.srlE : Laws.RoundTrip.Statement .srlE := fun _ _ => rfl
theorem Laws.RoundTrip.srlH : Laws.RoundTrip.Statement .srlH := fun _ _ => rfl
theorem Laws.RoundTrip.srlL : Laws.RoundTrip.Statement .srlL := fun _ _ => rfl
theorem Laws.RoundTrip.srlMemHl : Laws.RoundTrip.Statement .srlMemHl := fun _ _ => rfl
theorem Laws.RoundTrip.srlA : Laws.RoundTrip.Statement .srlA := fun _ _ => rfl
theorem Laws.RoundTrip.bit0B : Laws.RoundTrip.Statement .bit0B := fun _ _ => rfl
theorem Laws.RoundTrip.bit0C : Laws.RoundTrip.Statement .bit0C := fun _ _ => rfl
theorem Laws.RoundTrip.bit0D : Laws.RoundTrip.Statement .bit0D := fun _ _ => rfl
theorem Laws.RoundTrip.bit0E : Laws.RoundTrip.Statement .bit0E := fun _ _ => rfl
theorem Laws.RoundTrip.bit0H : Laws.RoundTrip.Statement .bit0H := fun _ _ => rfl
theorem Laws.RoundTrip.bit0L : Laws.RoundTrip.Statement .bit0L := fun _ _ => rfl
theorem Laws.RoundTrip.bit0MemHl : Laws.RoundTrip.Statement .bit0MemHl := fun _ _ => rfl
theorem Laws.RoundTrip.bit0A : Laws.RoundTrip.Statement .bit0A := fun _ _ => rfl
theorem Laws.RoundTrip.bit1B : Laws.RoundTrip.Statement .bit1B := fun _ _ => rfl
theorem Laws.RoundTrip.bit1C : Laws.RoundTrip.Statement .bit1C := fun _ _ => rfl
theorem Laws.RoundTrip.bit1D : Laws.RoundTrip.Statement .bit1D := fun _ _ => rfl
theorem Laws.RoundTrip.bit1E : Laws.RoundTrip.Statement .bit1E := fun _ _ => rfl
theorem Laws.RoundTrip.bit1H : Laws.RoundTrip.Statement .bit1H := fun _ _ => rfl
theorem Laws.RoundTrip.bit1L : Laws.RoundTrip.Statement .bit1L := fun _ _ => rfl
theorem Laws.RoundTrip.bit1MemHl : Laws.RoundTrip.Statement .bit1MemHl := fun _ _ => rfl
theorem Laws.RoundTrip.bit1A : Laws.RoundTrip.Statement .bit1A := fun _ _ => rfl
theorem Laws.RoundTrip.bit2B : Laws.RoundTrip.Statement .bit2B := fun _ _ => rfl
theorem Laws.RoundTrip.bit2C : Laws.RoundTrip.Statement .bit2C := fun _ _ => rfl
theorem Laws.RoundTrip.bit2D : Laws.RoundTrip.Statement .bit2D := fun _ _ => rfl
theorem Laws.RoundTrip.bit2E : Laws.RoundTrip.Statement .bit2E := fun _ _ => rfl
theorem Laws.RoundTrip.bit2H : Laws.RoundTrip.Statement .bit2H := fun _ _ => rfl
theorem Laws.RoundTrip.bit2L : Laws.RoundTrip.Statement .bit2L := fun _ _ => rfl
theorem Laws.RoundTrip.bit2MemHl : Laws.RoundTrip.Statement .bit2MemHl := fun _ _ => rfl
theorem Laws.RoundTrip.bit2A : Laws.RoundTrip.Statement .bit2A := fun _ _ => rfl
theorem Laws.RoundTrip.bit3B : Laws.RoundTrip.Statement .bit3B := fun _ _ => rfl
theorem Laws.RoundTrip.bit3C : Laws.RoundTrip.Statement .bit3C := fun _ _ => rfl
theorem Laws.RoundTrip.bit3D : Laws.RoundTrip.Statement .bit3D := fun _ _ => rfl
theorem Laws.RoundTrip.bit3E : Laws.RoundTrip.Statement .bit3E := fun _ _ => rfl
theorem Laws.RoundTrip.bit3H : Laws.RoundTrip.Statement .bit3H := fun _ _ => rfl
theorem Laws.RoundTrip.bit3L : Laws.RoundTrip.Statement .bit3L := fun _ _ => rfl
theorem Laws.RoundTrip.bit3MemHl : Laws.RoundTrip.Statement .bit3MemHl := fun _ _ => rfl
theorem Laws.RoundTrip.bit3A : Laws.RoundTrip.Statement .bit3A := fun _ _ => rfl
theorem Laws.RoundTrip.bit4B : Laws.RoundTrip.Statement .bit4B := fun _ _ => rfl
theorem Laws.RoundTrip.bit4C : Laws.RoundTrip.Statement .bit4C := fun _ _ => rfl
theorem Laws.RoundTrip.bit4D : Laws.RoundTrip.Statement .bit4D := fun _ _ => rfl
theorem Laws.RoundTrip.bit4E : Laws.RoundTrip.Statement .bit4E := fun _ _ => rfl
theorem Laws.RoundTrip.bit4H : Laws.RoundTrip.Statement .bit4H := fun _ _ => rfl
theorem Laws.RoundTrip.bit4L : Laws.RoundTrip.Statement .bit4L := fun _ _ => rfl
theorem Laws.RoundTrip.bit4MemHl : Laws.RoundTrip.Statement .bit4MemHl := fun _ _ => rfl
theorem Laws.RoundTrip.bit4A : Laws.RoundTrip.Statement .bit4A := fun _ _ => rfl
theorem Laws.RoundTrip.bit5B : Laws.RoundTrip.Statement .bit5B := fun _ _ => rfl
theorem Laws.RoundTrip.bit5C : Laws.RoundTrip.Statement .bit5C := fun _ _ => rfl
theorem Laws.RoundTrip.bit5D : Laws.RoundTrip.Statement .bit5D := fun _ _ => rfl
theorem Laws.RoundTrip.bit5E : Laws.RoundTrip.Statement .bit5E := fun _ _ => rfl
theorem Laws.RoundTrip.bit5H : Laws.RoundTrip.Statement .bit5H := fun _ _ => rfl
theorem Laws.RoundTrip.bit5L : Laws.RoundTrip.Statement .bit5L := fun _ _ => rfl
theorem Laws.RoundTrip.bit5MemHl : Laws.RoundTrip.Statement .bit5MemHl := fun _ _ => rfl
theorem Laws.RoundTrip.bit5A : Laws.RoundTrip.Statement .bit5A := fun _ _ => rfl
theorem Laws.RoundTrip.bit6B : Laws.RoundTrip.Statement .bit6B := fun _ _ => rfl
theorem Laws.RoundTrip.bit6C : Laws.RoundTrip.Statement .bit6C := fun _ _ => rfl
theorem Laws.RoundTrip.bit6D : Laws.RoundTrip.Statement .bit6D := fun _ _ => rfl
theorem Laws.RoundTrip.bit6E : Laws.RoundTrip.Statement .bit6E := fun _ _ => rfl
theorem Laws.RoundTrip.bit6H : Laws.RoundTrip.Statement .bit6H := fun _ _ => rfl
theorem Laws.RoundTrip.bit6L : Laws.RoundTrip.Statement .bit6L := fun _ _ => rfl
theorem Laws.RoundTrip.bit6MemHl : Laws.RoundTrip.Statement .bit6MemHl := fun _ _ => rfl
theorem Laws.RoundTrip.bit6A : Laws.RoundTrip.Statement .bit6A := fun _ _ => rfl
theorem Laws.RoundTrip.bit7B : Laws.RoundTrip.Statement .bit7B := fun _ _ => rfl
theorem Laws.RoundTrip.bit7C : Laws.RoundTrip.Statement .bit7C := fun _ _ => rfl
theorem Laws.RoundTrip.bit7D : Laws.RoundTrip.Statement .bit7D := fun _ _ => rfl
theorem Laws.RoundTrip.bit7E : Laws.RoundTrip.Statement .bit7E := fun _ _ => rfl
theorem Laws.RoundTrip.bit7H : Laws.RoundTrip.Statement .bit7H := fun _ _ => rfl
theorem Laws.RoundTrip.bit7L : Laws.RoundTrip.Statement .bit7L := fun _ _ => rfl
theorem Laws.RoundTrip.bit7MemHl : Laws.RoundTrip.Statement .bit7MemHl := fun _ _ => rfl
theorem Laws.RoundTrip.bit7A : Laws.RoundTrip.Statement .bit7A := fun _ _ => rfl
theorem Laws.RoundTrip.res0B : Laws.RoundTrip.Statement .res0B := fun _ _ => rfl
theorem Laws.RoundTrip.res0C : Laws.RoundTrip.Statement .res0C := fun _ _ => rfl
theorem Laws.RoundTrip.res0D : Laws.RoundTrip.Statement .res0D := fun _ _ => rfl
theorem Laws.RoundTrip.res0E : Laws.RoundTrip.Statement .res0E := fun _ _ => rfl
theorem Laws.RoundTrip.res0H : Laws.RoundTrip.Statement .res0H := fun _ _ => rfl
theorem Laws.RoundTrip.res0L : Laws.RoundTrip.Statement .res0L := fun _ _ => rfl
theorem Laws.RoundTrip.res0MemHl : Laws.RoundTrip.Statement .res0MemHl := fun _ _ => rfl
theorem Laws.RoundTrip.res0A : Laws.RoundTrip.Statement .res0A := fun _ _ => rfl
theorem Laws.RoundTrip.res1B : Laws.RoundTrip.Statement .res1B := fun _ _ => rfl
theorem Laws.RoundTrip.res1C : Laws.RoundTrip.Statement .res1C := fun _ _ => rfl
theorem Laws.RoundTrip.res1D : Laws.RoundTrip.Statement .res1D := fun _ _ => rfl
theorem Laws.RoundTrip.res1E : Laws.RoundTrip.Statement .res1E := fun _ _ => rfl
theorem Laws.RoundTrip.res1H : Laws.RoundTrip.Statement .res1H := fun _ _ => rfl
theorem Laws.RoundTrip.res1L : Laws.RoundTrip.Statement .res1L := fun _ _ => rfl
theorem Laws.RoundTrip.res1MemHl : Laws.RoundTrip.Statement .res1MemHl := fun _ _ => rfl
theorem Laws.RoundTrip.res1A : Laws.RoundTrip.Statement .res1A := fun _ _ => rfl
theorem Laws.RoundTrip.res2B : Laws.RoundTrip.Statement .res2B := fun _ _ => rfl
theorem Laws.RoundTrip.res2C : Laws.RoundTrip.Statement .res2C := fun _ _ => rfl
theorem Laws.RoundTrip.res2D : Laws.RoundTrip.Statement .res2D := fun _ _ => rfl
theorem Laws.RoundTrip.res2E : Laws.RoundTrip.Statement .res2E := fun _ _ => rfl
theorem Laws.RoundTrip.res2H : Laws.RoundTrip.Statement .res2H := fun _ _ => rfl
theorem Laws.RoundTrip.res2L : Laws.RoundTrip.Statement .res2L := fun _ _ => rfl
theorem Laws.RoundTrip.res2MemHl : Laws.RoundTrip.Statement .res2MemHl := fun _ _ => rfl
theorem Laws.RoundTrip.res2A : Laws.RoundTrip.Statement .res2A := fun _ _ => rfl
theorem Laws.RoundTrip.res3B : Laws.RoundTrip.Statement .res3B := fun _ _ => rfl
theorem Laws.RoundTrip.res3C : Laws.RoundTrip.Statement .res3C := fun _ _ => rfl
theorem Laws.RoundTrip.res3D : Laws.RoundTrip.Statement .res3D := fun _ _ => rfl
theorem Laws.RoundTrip.res3E : Laws.RoundTrip.Statement .res3E := fun _ _ => rfl
theorem Laws.RoundTrip.res3H : Laws.RoundTrip.Statement .res3H := fun _ _ => rfl
theorem Laws.RoundTrip.res3L : Laws.RoundTrip.Statement .res3L := fun _ _ => rfl
theorem Laws.RoundTrip.res3MemHl : Laws.RoundTrip.Statement .res3MemHl := fun _ _ => rfl
theorem Laws.RoundTrip.res3A : Laws.RoundTrip.Statement .res3A := fun _ _ => rfl
theorem Laws.RoundTrip.res4B : Laws.RoundTrip.Statement .res4B := fun _ _ => rfl
theorem Laws.RoundTrip.res4C : Laws.RoundTrip.Statement .res4C := fun _ _ => rfl
theorem Laws.RoundTrip.res4D : Laws.RoundTrip.Statement .res4D := fun _ _ => rfl
theorem Laws.RoundTrip.res4E : Laws.RoundTrip.Statement .res4E := fun _ _ => rfl
theorem Laws.RoundTrip.res4H : Laws.RoundTrip.Statement .res4H := fun _ _ => rfl
theorem Laws.RoundTrip.res4L : Laws.RoundTrip.Statement .res4L := fun _ _ => rfl
theorem Laws.RoundTrip.res4MemHl : Laws.RoundTrip.Statement .res4MemHl := fun _ _ => rfl
theorem Laws.RoundTrip.res4A : Laws.RoundTrip.Statement .res4A := fun _ _ => rfl
theorem Laws.RoundTrip.res5B : Laws.RoundTrip.Statement .res5B := fun _ _ => rfl
theorem Laws.RoundTrip.res5C : Laws.RoundTrip.Statement .res5C := fun _ _ => rfl
theorem Laws.RoundTrip.res5D : Laws.RoundTrip.Statement .res5D := fun _ _ => rfl
theorem Laws.RoundTrip.res5E : Laws.RoundTrip.Statement .res5E := fun _ _ => rfl
theorem Laws.RoundTrip.res5H : Laws.RoundTrip.Statement .res5H := fun _ _ => rfl
theorem Laws.RoundTrip.res5L : Laws.RoundTrip.Statement .res5L := fun _ _ => rfl
theorem Laws.RoundTrip.res5MemHl : Laws.RoundTrip.Statement .res5MemHl := fun _ _ => rfl
theorem Laws.RoundTrip.res5A : Laws.RoundTrip.Statement .res5A := fun _ _ => rfl
theorem Laws.RoundTrip.res6B : Laws.RoundTrip.Statement .res6B := fun _ _ => rfl
theorem Laws.RoundTrip.res6C : Laws.RoundTrip.Statement .res6C := fun _ _ => rfl
theorem Laws.RoundTrip.res6D : Laws.RoundTrip.Statement .res6D := fun _ _ => rfl
theorem Laws.RoundTrip.res6E : Laws.RoundTrip.Statement .res6E := fun _ _ => rfl
theorem Laws.RoundTrip.res6H : Laws.RoundTrip.Statement .res6H := fun _ _ => rfl
theorem Laws.RoundTrip.res6L : Laws.RoundTrip.Statement .res6L := fun _ _ => rfl
theorem Laws.RoundTrip.res6MemHl : Laws.RoundTrip.Statement .res6MemHl := fun _ _ => rfl
theorem Laws.RoundTrip.res6A : Laws.RoundTrip.Statement .res6A := fun _ _ => rfl
theorem Laws.RoundTrip.res7B : Laws.RoundTrip.Statement .res7B := fun _ _ => rfl
theorem Laws.RoundTrip.res7C : Laws.RoundTrip.Statement .res7C := fun _ _ => rfl
theorem Laws.RoundTrip.res7D : Laws.RoundTrip.Statement .res7D := fun _ _ => rfl
theorem Laws.RoundTrip.res7E : Laws.RoundTrip.Statement .res7E := fun _ _ => rfl
theorem Laws.RoundTrip.res7H : Laws.RoundTrip.Statement .res7H := fun _ _ => rfl
theorem Laws.RoundTrip.res7L : Laws.RoundTrip.Statement .res7L := fun _ _ => rfl
theorem Laws.RoundTrip.res7MemHl : Laws.RoundTrip.Statement .res7MemHl := fun _ _ => rfl
theorem Laws.RoundTrip.res7A : Laws.RoundTrip.Statement .res7A := fun _ _ => rfl
theorem Laws.RoundTrip.set0B : Laws.RoundTrip.Statement .set0B := fun _ _ => rfl
theorem Laws.RoundTrip.set0C : Laws.RoundTrip.Statement .set0C := fun _ _ => rfl
theorem Laws.RoundTrip.set0D : Laws.RoundTrip.Statement .set0D := fun _ _ => rfl
theorem Laws.RoundTrip.set0E : Laws.RoundTrip.Statement .set0E := fun _ _ => rfl
theorem Laws.RoundTrip.set0H : Laws.RoundTrip.Statement .set0H := fun _ _ => rfl
theorem Laws.RoundTrip.set0L : Laws.RoundTrip.Statement .set0L := fun _ _ => rfl
theorem Laws.RoundTrip.set0MemHl : Laws.RoundTrip.Statement .set0MemHl := fun _ _ => rfl
theorem Laws.RoundTrip.set0A : Laws.RoundTrip.Statement .set0A := fun _ _ => rfl
theorem Laws.RoundTrip.set1B : Laws.RoundTrip.Statement .set1B := fun _ _ => rfl
theorem Laws.RoundTrip.set1C : Laws.RoundTrip.Statement .set1C := fun _ _ => rfl
theorem Laws.RoundTrip.set1D : Laws.RoundTrip.Statement .set1D := fun _ _ => rfl
theorem Laws.RoundTrip.set1E : Laws.RoundTrip.Statement .set1E := fun _ _ => rfl
theorem Laws.RoundTrip.set1H : Laws.RoundTrip.Statement .set1H := fun _ _ => rfl
theorem Laws.RoundTrip.set1L : Laws.RoundTrip.Statement .set1L := fun _ _ => rfl
theorem Laws.RoundTrip.set1MemHl : Laws.RoundTrip.Statement .set1MemHl := fun _ _ => rfl
theorem Laws.RoundTrip.set1A : Laws.RoundTrip.Statement .set1A := fun _ _ => rfl
theorem Laws.RoundTrip.set2B : Laws.RoundTrip.Statement .set2B := fun _ _ => rfl
theorem Laws.RoundTrip.set2C : Laws.RoundTrip.Statement .set2C := fun _ _ => rfl
theorem Laws.RoundTrip.set2D : Laws.RoundTrip.Statement .set2D := fun _ _ => rfl
theorem Laws.RoundTrip.set2E : Laws.RoundTrip.Statement .set2E := fun _ _ => rfl
theorem Laws.RoundTrip.set2H : Laws.RoundTrip.Statement .set2H := fun _ _ => rfl
theorem Laws.RoundTrip.set2L : Laws.RoundTrip.Statement .set2L := fun _ _ => rfl
theorem Laws.RoundTrip.set2MemHl : Laws.RoundTrip.Statement .set2MemHl := fun _ _ => rfl
theorem Laws.RoundTrip.set2A : Laws.RoundTrip.Statement .set2A := fun _ _ => rfl
theorem Laws.RoundTrip.set3B : Laws.RoundTrip.Statement .set3B := fun _ _ => rfl
theorem Laws.RoundTrip.set3C : Laws.RoundTrip.Statement .set3C := fun _ _ => rfl
theorem Laws.RoundTrip.set3D : Laws.RoundTrip.Statement .set3D := fun _ _ => rfl
theorem Laws.RoundTrip.set3E : Laws.RoundTrip.Statement .set3E := fun _ _ => rfl
theorem Laws.RoundTrip.set3H : Laws.RoundTrip.Statement .set3H := fun _ _ => rfl
theorem Laws.RoundTrip.set3L : Laws.RoundTrip.Statement .set3L := fun _ _ => rfl
theorem Laws.RoundTrip.set3MemHl : Laws.RoundTrip.Statement .set3MemHl := fun _ _ => rfl
theorem Laws.RoundTrip.set3A : Laws.RoundTrip.Statement .set3A := fun _ _ => rfl
theorem Laws.RoundTrip.set4B : Laws.RoundTrip.Statement .set4B := fun _ _ => rfl
theorem Laws.RoundTrip.set4C : Laws.RoundTrip.Statement .set4C := fun _ _ => rfl
theorem Laws.RoundTrip.set4D : Laws.RoundTrip.Statement .set4D := fun _ _ => rfl
theorem Laws.RoundTrip.set4E : Laws.RoundTrip.Statement .set4E := fun _ _ => rfl
theorem Laws.RoundTrip.set4H : Laws.RoundTrip.Statement .set4H := fun _ _ => rfl
theorem Laws.RoundTrip.set4L : Laws.RoundTrip.Statement .set4L := fun _ _ => rfl
theorem Laws.RoundTrip.set4MemHl : Laws.RoundTrip.Statement .set4MemHl := fun _ _ => rfl
theorem Laws.RoundTrip.set4A : Laws.RoundTrip.Statement .set4A := fun _ _ => rfl
theorem Laws.RoundTrip.set5B : Laws.RoundTrip.Statement .set5B := fun _ _ => rfl
theorem Laws.RoundTrip.set5C : Laws.RoundTrip.Statement .set5C := fun _ _ => rfl
theorem Laws.RoundTrip.set5D : Laws.RoundTrip.Statement .set5D := fun _ _ => rfl
theorem Laws.RoundTrip.set5E : Laws.RoundTrip.Statement .set5E := fun _ _ => rfl
theorem Laws.RoundTrip.set5H : Laws.RoundTrip.Statement .set5H := fun _ _ => rfl
theorem Laws.RoundTrip.set5L : Laws.RoundTrip.Statement .set5L := fun _ _ => rfl
theorem Laws.RoundTrip.set5MemHl : Laws.RoundTrip.Statement .set5MemHl := fun _ _ => rfl
theorem Laws.RoundTrip.set5A : Laws.RoundTrip.Statement .set5A := fun _ _ => rfl
theorem Laws.RoundTrip.set6B : Laws.RoundTrip.Statement .set6B := fun _ _ => rfl
theorem Laws.RoundTrip.set6C : Laws.RoundTrip.Statement .set6C := fun _ _ => rfl
theorem Laws.RoundTrip.set6D : Laws.RoundTrip.Statement .set6D := fun _ _ => rfl
theorem Laws.RoundTrip.set6E : Laws.RoundTrip.Statement .set6E := fun _ _ => rfl
theorem Laws.RoundTrip.set6H : Laws.RoundTrip.Statement .set6H := fun _ _ => rfl
theorem Laws.RoundTrip.set6L : Laws.RoundTrip.Statement .set6L := fun _ _ => rfl
theorem Laws.RoundTrip.set6MemHl : Laws.RoundTrip.Statement .set6MemHl := fun _ _ => rfl
theorem Laws.RoundTrip.set6A : Laws.RoundTrip.Statement .set6A := fun _ _ => rfl
theorem Laws.RoundTrip.set7B : Laws.RoundTrip.Statement .set7B := fun _ _ => rfl
theorem Laws.RoundTrip.set7C : Laws.RoundTrip.Statement .set7C := fun _ _ => rfl
theorem Laws.RoundTrip.set7D : Laws.RoundTrip.Statement .set7D := fun _ _ => rfl
theorem Laws.RoundTrip.set7E : Laws.RoundTrip.Statement .set7E := fun _ _ => rfl
theorem Laws.RoundTrip.set7H : Laws.RoundTrip.Statement .set7H := fun _ _ => rfl
theorem Laws.RoundTrip.set7L : Laws.RoundTrip.Statement .set7L := fun _ _ => rfl
theorem Laws.RoundTrip.set7MemHl : Laws.RoundTrip.Statement .set7MemHl := fun _ _ => rfl
theorem Laws.RoundTrip.set7A : Laws.RoundTrip.Statement .set7A := fun _ _ => rfl

end Sys2Proof
end

