-- ==== Sys2Proof/Laws/Shape.lean ====
section
/-! SUPPORT. What an instruction can do, said once: `exec` is one of some sixty shared operations, with its operands. A fact about
every instruction is proved over the shapes, not over the 512 rows. -/

namespace Sys2Proof.Machine

/-- The address forms of the loads and stores of A. -/
inductive AddrForm where
  | bc
  | de
  | imm (x : Word)
  | high (n : Byte)
  | highC

def AddrForm.addr (s : State) : AddrForm → Word
  | .bc => s.bc
  | .de => s.de
  | .imm x => x
  | .high n => highPage n
  | .highC => highPage s.c

/-- The shared operations with their operands. -/
inductive Shape where
  | loadReg (dst src : Reg8)
  | loadImm (dst : Reg8) (n : Byte)
  | loadMem (dst : Reg8)
  | storeReg (src : Reg8)
  | storeImm (n : Byte)
  | loadA (x : AddrForm) (cost : Nat)
  | storeA (x : AddrForm) (cost : Nat)
  | storeAHl (delta : Word)
  | loadAHl (delta : Word)
  | loadPair (p : PairSp) (n : Word)
  | storeSp (x : Word)
  | spHl
  | push (p : PairAf)
  | pop (p : PairAf)
  | hlSp (e : Byte)
  | aluReg (op : AluOp) (r : Reg8)
  | aluMem (op : AluOp)
  | aluImm (op : AluOp) (n : Byte)
  | incReg (r : Reg8)
  | decReg (r : Reg8)
  | incMem
  | decMem
  | daa
  | cpl
  | scf
  | ccf
  | incPair (p : PairSp)
  | decPair (p : PairSp)
  | addHl (p : PairSp)
  | addSp (e : Byte)
  | rotA (op : RotOp)
  | rotReg (op : RotOp) (r : Reg8)
  | rotMem (op : RotOp)
  | bitReg (b : Fin 8) (r : Reg8)
  | bitMem (b : Fin 8)
  | resReg (b : Fin 8) (r : Reg8)
  | resMem (b : Fin 8)
  | setReg (b : Fin 8) (r : Reg8)
  | setMem (b : Fin 8)
  | jp (x : Word)
  | jpHl
  | jr (e : Byte)
  | jpIf (cc : Cond) (x : Word)
  | jrIf (cc : Cond) (e : Byte)
  | call (x : Word)
  | callIf (cc : Cond) (x : Word)
  | ret
  | retIf (cc : Cond)
  | reti
  | rst (t : Word)
  | nop
  | halt
  | stop
  | di
  | ei
  | illegal (op : Byte)
  | cb (op : Byte)

/-- The operation of a shape. -/
def Shape.run (s : State) : Shape → Result
  | .loadReg dst src => Machine.loadReg dst src s
  | .loadImm dst n => Machine.loadImm dst n s
  | .loadMem dst => Machine.loadRegMemHl dst s
  | .storeReg src => Machine.storeMemHlReg src s
  | .storeImm n => execLdMemHlN8 n s
  | .loadA x n => loadAFrom (x.addr s) n s
  | .storeA x n => storeATo (x.addr s) n s
  | .storeAHl w => storeAThenHl w s
  | .loadAHl w => loadAThenHl w s
  | .loadPair p n => Machine.loadPairImm p n s
  | .storeSp x => execLdMemA16Sp x s
  | .spHl => execLdSpHl s
  | .push p => Machine.push p s
  | .pop p => Machine.pop p s
  | .hlSp e => execLdHlSpE8 e s
  | .aluReg op r => Machine.aluReg op r s
  | .aluMem op => aluMemHl op s
  | .aluImm op n => Machine.aluImm op n s
  | .incReg r => Machine.incReg r s
  | .decReg r => Machine.decReg r s
  | .incMem => execIncMemHl s
  | .decMem => execDecMemHl s
  | .daa => execDaa s
  | .cpl => execCpl s
  | .scf => execScf s
  | .ccf => execCcf s
  | .incPair p => Machine.incPair p s
  | .decPair p => Machine.decPair p s
  | .addHl p => addHlPair p s
  | .addSp e => execAddSpE8 e s
  | .rotA op => rotateA op s
  | .rotReg op r => rotateReg op r s
  | .rotMem op => rotateMemHl op s
  | .bitReg b r => testReg b r s
  | .bitMem b => testMemHl b s
  | .resReg b r => resetReg b r s
  | .resMem b => resetMemHl b s
  | .setReg b r => raiseReg b r s
  | .setMem b => raiseMemHl b s
  | .jp x => execJpA16 x s
  | .jpHl => execJpHl s
  | .jr e => execJrE8 e s
  | .jpIf cc x => jumpIf cc x 16 12 s
  | .jrIf cc e => jumpIf cc (s.pc + signExtend16 e) 12 8 s
  | .call x => execCallA16 x s
  | .callIf cc x => Machine.callIf cc x s
  | .ret => execRet s
  | .retIf cc => returnIf cc s
  | .reti => execReti s
  | .rst t => restart t s
  | .nop => execNop s
  | .halt => execHalt s
  | .stop => execStop 0 s
  | .di => execDi s
  | .ei => execEi s
  | .illegal op => Machine.illegal op s
  | .cb op => runCb op s

/-- The shape of each row. -/
def shape : Instr → Shape
  | .nop => .nop
  | .ldBcN16 n => .loadPair .bc n
  | .ldMemBcA => .storeA .bc 8
  | .incBc => .incPair .bc
  | .incB => .incReg .b
  | .decB => .decReg .b
  | .ldBN8 n => .loadImm .b n
  | .rlca => .rotA .rlc
  | .ldMemA16Sp a => .storeSp a
  | .addHlBc => .addHl .bc
  | .ldAMemBc => .loadA .bc 8
  | .decBc => .decPair .bc
  | .incC => .incReg .c
  | .decC => .decReg .c
  | .ldCN8 n => .loadImm .c n
  | .rrca => .rotA .rrc
  | .stop _ => .stop
  | .ldDeN16 n => .loadPair .de n
  | .ldMemDeA => .storeA .de 8
  | .incDe => .incPair .de
  | .incD => .incReg .d
  | .decD => .decReg .d
  | .ldDN8 n => .loadImm .d n
  | .rla => .rotA .rl
  | .jrE8 e => .jr e
  | .addHlDe => .addHl .de
  | .ldAMemDe => .loadA .de 8
  | .decDe => .decPair .de
  | .incE => .incReg .e
  | .decE => .decReg .e
  | .ldEN8 n => .loadImm .e n
  | .rra => .rotA .rr
  | .jrNzE8 e => .jrIf .nz e
  | .ldHlN16 n => .loadPair .hl n
  | .ldMemHlIncA => .storeAHl 1
  | .incHl => .incPair .hl
  | .incH => .incReg .h
  | .decH => .decReg .h
  | .ldHN8 n => .loadImm .h n
  | .daa => .daa
  | .jrZE8 e => .jrIf .z e
  | .addHlHl => .addHl .hl
  | .ldAMemHlInc => .loadAHl 1
  | .decHl => .decPair .hl
  | .incL => .incReg .l
  | .decL => .decReg .l
  | .ldLN8 n => .loadImm .l n
  | .cpl => .cpl
  | .jrNcE8 e => .jrIf .nc e
  | .ldSpN16 n => .loadPair .sp n
  | .ldMemHlDecA => .storeAHl (-1)
  | .incSp => .incPair .sp
  | .incMemHl => .incMem
  | .decMemHl => .decMem
  | .ldMemHlN8 n => .storeImm n
  | .scf => .scf
  | .jrCE8 e => .jrIf .c e
  | .addHlSp => .addHl .sp
  | .ldAMemHlDec => .loadAHl (-1)
  | .decSp => .decPair .sp
  | .incA => .incReg .a
  | .decA => .decReg .a
  | .ldAN8 n => .loadImm .a n
  | .ccf => .ccf
  | .ldBB => .loadReg .b .b
  | .ldBC => .loadReg .b .c
  | .ldBD => .loadReg .b .d
  | .ldBE => .loadReg .b .e
  | .ldBH => .loadReg .b .h
  | .ldBL => .loadReg .b .l
  | .ldBMemHl => .loadMem .b
  | .ldBA => .loadReg .b .a
  | .ldCB => .loadReg .c .b
  | .ldCC => .loadReg .c .c
  | .ldCD => .loadReg .c .d
  | .ldCE => .loadReg .c .e
  | .ldCH => .loadReg .c .h
  | .ldCL => .loadReg .c .l
  | .ldCMemHl => .loadMem .c
  | .ldCA => .loadReg .c .a
  | .ldDB => .loadReg .d .b
  | .ldDC => .loadReg .d .c
  | .ldDD => .loadReg .d .d
  | .ldDE => .loadReg .d .e
  | .ldDH => .loadReg .d .h
  | .ldDL => .loadReg .d .l
  | .ldDMemHl => .loadMem .d
  | .ldDA => .loadReg .d .a
  | .ldEB => .loadReg .e .b
  | .ldEC => .loadReg .e .c
  | .ldED => .loadReg .e .d
  | .ldEE => .loadReg .e .e
  | .ldEH => .loadReg .e .h
  | .ldEL => .loadReg .e .l
  | .ldEMemHl => .loadMem .e
  | .ldEA => .loadReg .e .a
  | .ldHB => .loadReg .h .b
  | .ldHC => .loadReg .h .c
  | .ldHD => .loadReg .h .d
  | .ldHE => .loadReg .h .e
  | .ldHH => .loadReg .h .h
  | .ldHL => .loadReg .h .l
  | .ldHMemHl => .loadMem .h
  | .ldHA => .loadReg .h .a
  | .ldLB => .loadReg .l .b
  | .ldLC => .loadReg .l .c
  | .ldLD => .loadReg .l .d
  | .ldLE => .loadReg .l .e
  | .ldLH => .loadReg .l .h
  | .ldLL => .loadReg .l .l
  | .ldLMemHl => .loadMem .l
  | .ldLA => .loadReg .l .a
  | .ldMemHlB => .storeReg .b
  | .ldMemHlC => .storeReg .c
  | .ldMemHlD => .storeReg .d
  | .ldMemHlE => .storeReg .e
  | .ldMemHlH => .storeReg .h
  | .ldMemHlL => .storeReg .l
  | .halt => .halt
  | .ldMemHlA => .storeReg .a
  | .ldAB => .loadReg .a .b
  | .ldAC => .loadReg .a .c
  | .ldAD => .loadReg .a .d
  | .ldAE => .loadReg .a .e
  | .ldAH => .loadReg .a .h
  | .ldAL => .loadReg .a .l
  | .ldAMemHl => .loadMem .a
  | .ldAA => .loadReg .a .a
  | .addAB => .aluReg .add .b
  | .addAC => .aluReg .add .c
  | .addAD => .aluReg .add .d
  | .addAE => .aluReg .add .e
  | .addAH => .aluReg .add .h
  | .addAL => .aluReg .add .l
  | .addAMemHl => .aluMem .add
  | .addAA => .aluReg .add .a
  | .adcAB => .aluReg .adc .b
  | .adcAC => .aluReg .adc .c
  | .adcAD => .aluReg .adc .d
  | .adcAE => .aluReg .adc .e
  | .adcAH => .aluReg .adc .h
  | .adcAL => .aluReg .adc .l
  | .adcAMemHl => .aluMem .adc
  | .adcAA => .aluReg .adc .a
  | .subB => .aluReg .sub .b
  | .subC => .aluReg .sub .c
  | .subD => .aluReg .sub .d
  | .subE => .aluReg .sub .e
  | .subH => .aluReg .sub .h
  | .subL => .aluReg .sub .l
  | .subMemHl => .aluMem .sub
  | .subA => .aluReg .sub .a
  | .sbcAB => .aluReg .sbc .b
  | .sbcAC => .aluReg .sbc .c
  | .sbcAD => .aluReg .sbc .d
  | .sbcAE => .aluReg .sbc .e
  | .sbcAH => .aluReg .sbc .h
  | .sbcAL => .aluReg .sbc .l
  | .sbcAMemHl => .aluMem .sbc
  | .sbcAA => .aluReg .sbc .a
  | .andB => .aluReg .and .b
  | .andC => .aluReg .and .c
  | .andD => .aluReg .and .d
  | .andE => .aluReg .and .e
  | .andH => .aluReg .and .h
  | .andL => .aluReg .and .l
  | .andMemHl => .aluMem .and
  | .andA => .aluReg .and .a
  | .xorB => .aluReg .xor .b
  | .xorC => .aluReg .xor .c
  | .xorD => .aluReg .xor .d
  | .xorE => .aluReg .xor .e
  | .xorH => .aluReg .xor .h
  | .xorL => .aluReg .xor .l
  | .xorMemHl => .aluMem .xor
  | .xorA => .aluReg .xor .a
  | .orB => .aluReg .or .b
  | .orC => .aluReg .or .c
  | .orD => .aluReg .or .d
  | .orE => .aluReg .or .e
  | .orH => .aluReg .or .h
  | .orL => .aluReg .or .l
  | .orMemHl => .aluMem .or
  | .orA => .aluReg .or .a
  | .cpB => .aluReg .cp .b
  | .cpC => .aluReg .cp .c
  | .cpD => .aluReg .cp .d
  | .cpE => .aluReg .cp .e
  | .cpH => .aluReg .cp .h
  | .cpL => .aluReg .cp .l
  | .cpMemHl => .aluMem .cp
  | .cpA => .aluReg .cp .a
  | .retNz => .retIf .nz
  | .popBc => .pop .bc
  | .jpNzA16 a => .jpIf .nz a
  | .jpA16 a => .jp a
  | .callNzA16 a => .callIf .nz a
  | .pushBc => .push .bc
  | .addAN8 n => .aluImm .add n
  | .rst00h => .rst 0x0000
  | .retZ => .retIf .z
  | .ret => .ret
  | .jpZA16 a => .jpIf .z a
  | .prefixCb op => .cb op
  | .callZA16 a => .callIf .z a
  | .callA16 a => .call a
  | .adcAN8 n => .aluImm .adc n
  | .rst08h => .rst 0x0008
  | .retNc => .retIf .nc
  | .popDe => .pop .de
  | .jpNcA16 a => .jpIf .nc a
  | .illegalD3 => .illegal 0xD3
  | .callNcA16 a => .callIf .nc a
  | .pushDe => .push .de
  | .subN8 n => .aluImm .sub n
  | .rst10h => .rst 0x0010
  | .retC => .retIf .c
  | .reti => .reti
  | .jpCA16 a => .jpIf .c a
  | .illegalDB => .illegal 0xDB
  | .callCA16 a => .callIf .c a
  | .illegalDD => .illegal 0xDD
  | .sbcAN8 n => .aluImm .sbc n
  | .rst18h => .rst 0x0018
  | .ldhMemA8A n => .storeA (.high n) 12
  | .popHl => .pop .hl
  | .ldMemCA => .storeA .highC 8
  | .illegalE3 => .illegal 0xE3
  | .illegalE4 => .illegal 0xE4
  | .pushHl => .push .hl
  | .andN8 n => .aluImm .and n
  | .rst20h => .rst 0x0020
  | .addSpE8 e => .addSp e
  | .jpHl => .jpHl
  | .ldMemA16A a => .storeA (.imm a) 16
  | .illegalEB => .illegal 0xEB
  | .illegalEC => .illegal 0xEC
  | .illegalED => .illegal 0xED
  | .xorN8 n => .aluImm .xor n
  | .rst28h => .rst 0x0028
  | .ldhAMemA8 n => .loadA (.high n) 12
  | .popAf => .pop .af
  | .ldAMemC => .loadA .highC 8
  | .di => .di
  | .illegalF4 => .illegal 0xF4
  | .pushAf => .push .af
  | .orN8 n => .aluImm .or n
  | .rst30h => .rst 0x0030
  | .ldHlSpE8 e => .hlSp e
  | .ldSpHl => .spHl
  | .ldAMemA16 a => .loadA (.imm a) 16
  | .ei => .ei
  | .illegalFC => .illegal 0xFC
  | .illegalFD => .illegal 0xFD
  | .cpN8 n => .aluImm .cp n
  | .rst38h => .rst 0x0038
  | .rlcB => .rotReg .rlc .b
  | .rlcC => .rotReg .rlc .c
  | .rlcD => .rotReg .rlc .d
  | .rlcE => .rotReg .rlc .e
  | .rlcH => .rotReg .rlc .h
  | .rlcL => .rotReg .rlc .l
  | .rlcMemHl => .rotMem .rlc
  | .rlcA => .rotReg .rlc .a
  | .rrcB => .rotReg .rrc .b
  | .rrcC => .rotReg .rrc .c
  | .rrcD => .rotReg .rrc .d
  | .rrcE => .rotReg .rrc .e
  | .rrcH => .rotReg .rrc .h
  | .rrcL => .rotReg .rrc .l
  | .rrcMemHl => .rotMem .rrc
  | .rrcA => .rotReg .rrc .a
  | .rlB => .rotReg .rl .b
  | .rlC => .rotReg .rl .c
  | .rlD => .rotReg .rl .d
  | .rlE => .rotReg .rl .e
  | .rlH => .rotReg .rl .h
  | .rlL => .rotReg .rl .l
  | .rlMemHl => .rotMem .rl
  | .rlA => .rotReg .rl .a
  | .rrB => .rotReg .rr .b
  | .rrC => .rotReg .rr .c
  | .rrD => .rotReg .rr .d
  | .rrE => .rotReg .rr .e
  | .rrH => .rotReg .rr .h
  | .rrL => .rotReg .rr .l
  | .rrMemHl => .rotMem .rr
  | .rrA => .rotReg .rr .a
  | .slaB => .rotReg .sla .b
  | .slaC => .rotReg .sla .c
  | .slaD => .rotReg .sla .d
  | .slaE => .rotReg .sla .e
  | .slaH => .rotReg .sla .h
  | .slaL => .rotReg .sla .l
  | .slaMemHl => .rotMem .sla
  | .slaA => .rotReg .sla .a
  | .sraB => .rotReg .sra .b
  | .sraC => .rotReg .sra .c
  | .sraD => .rotReg .sra .d
  | .sraE => .rotReg .sra .e
  | .sraH => .rotReg .sra .h
  | .sraL => .rotReg .sra .l
  | .sraMemHl => .rotMem .sra
  | .sraA => .rotReg .sra .a
  | .swapB => .rotReg .swap .b
  | .swapC => .rotReg .swap .c
  | .swapD => .rotReg .swap .d
  | .swapE => .rotReg .swap .e
  | .swapH => .rotReg .swap .h
  | .swapL => .rotReg .swap .l
  | .swapMemHl => .rotMem .swap
  | .swapA => .rotReg .swap .a
  | .srlB => .rotReg .srl .b
  | .srlC => .rotReg .srl .c
  | .srlD => .rotReg .srl .d
  | .srlE => .rotReg .srl .e
  | .srlH => .rotReg .srl .h
  | .srlL => .rotReg .srl .l
  | .srlMemHl => .rotMem .srl
  | .srlA => .rotReg .srl .a
  | .bit0B => .bitReg 0 .b
  | .bit0C => .bitReg 0 .c
  | .bit0D => .bitReg 0 .d
  | .bit0E => .bitReg 0 .e
  | .bit0H => .bitReg 0 .h
  | .bit0L => .bitReg 0 .l
  | .bit0MemHl => .bitMem 0
  | .bit0A => .bitReg 0 .a
  | .bit1B => .bitReg 1 .b
  | .bit1C => .bitReg 1 .c
  | .bit1D => .bitReg 1 .d
  | .bit1E => .bitReg 1 .e
  | .bit1H => .bitReg 1 .h
  | .bit1L => .bitReg 1 .l
  | .bit1MemHl => .bitMem 1
  | .bit1A => .bitReg 1 .a
  | .bit2B => .bitReg 2 .b
  | .bit2C => .bitReg 2 .c
  | .bit2D => .bitReg 2 .d
  | .bit2E => .bitReg 2 .e
  | .bit2H => .bitReg 2 .h
  | .bit2L => .bitReg 2 .l
  | .bit2MemHl => .bitMem 2
  | .bit2A => .bitReg 2 .a
  | .bit3B => .bitReg 3 .b
  | .bit3C => .bitReg 3 .c
  | .bit3D => .bitReg 3 .d
  | .bit3E => .bitReg 3 .e
  | .bit3H => .bitReg 3 .h
  | .bit3L => .bitReg 3 .l
  | .bit3MemHl => .bitMem 3
  | .bit3A => .bitReg 3 .a
  | .bit4B => .bitReg 4 .b
  | .bit4C => .bitReg 4 .c
  | .bit4D => .bitReg 4 .d
  | .bit4E => .bitReg 4 .e
  | .bit4H => .bitReg 4 .h
  | .bit4L => .bitReg 4 .l
  | .bit4MemHl => .bitMem 4
  | .bit4A => .bitReg 4 .a
  | .bit5B => .bitReg 5 .b
  | .bit5C => .bitReg 5 .c
  | .bit5D => .bitReg 5 .d
  | .bit5E => .bitReg 5 .e
  | .bit5H => .bitReg 5 .h
  | .bit5L => .bitReg 5 .l
  | .bit5MemHl => .bitMem 5
  | .bit5A => .bitReg 5 .a
  | .bit6B => .bitReg 6 .b
  | .bit6C => .bitReg 6 .c
  | .bit6D => .bitReg 6 .d
  | .bit6E => .bitReg 6 .e
  | .bit6H => .bitReg 6 .h
  | .bit6L => .bitReg 6 .l
  | .bit6MemHl => .bitMem 6
  | .bit6A => .bitReg 6 .a
  | .bit7B => .bitReg 7 .b
  | .bit7C => .bitReg 7 .c
  | .bit7D => .bitReg 7 .d
  | .bit7E => .bitReg 7 .e
  | .bit7H => .bitReg 7 .h
  | .bit7L => .bitReg 7 .l
  | .bit7MemHl => .bitMem 7
  | .bit7A => .bitReg 7 .a
  | .res0B => .resReg 0 .b
  | .res0C => .resReg 0 .c
  | .res0D => .resReg 0 .d
  | .res0E => .resReg 0 .e
  | .res0H => .resReg 0 .h
  | .res0L => .resReg 0 .l
  | .res0MemHl => .resMem 0
  | .res0A => .resReg 0 .a
  | .res1B => .resReg 1 .b
  | .res1C => .resReg 1 .c
  | .res1D => .resReg 1 .d
  | .res1E => .resReg 1 .e
  | .res1H => .resReg 1 .h
  | .res1L => .resReg 1 .l
  | .res1MemHl => .resMem 1
  | .res1A => .resReg 1 .a
  | .res2B => .resReg 2 .b
  | .res2C => .resReg 2 .c
  | .res2D => .resReg 2 .d
  | .res2E => .resReg 2 .e
  | .res2H => .resReg 2 .h
  | .res2L => .resReg 2 .l
  | .res2MemHl => .resMem 2
  | .res2A => .resReg 2 .a
  | .res3B => .resReg 3 .b
  | .res3C => .resReg 3 .c
  | .res3D => .resReg 3 .d
  | .res3E => .resReg 3 .e
  | .res3H => .resReg 3 .h
  | .res3L => .resReg 3 .l
  | .res3MemHl => .resMem 3
  | .res3A => .resReg 3 .a
  | .res4B => .resReg 4 .b
  | .res4C => .resReg 4 .c
  | .res4D => .resReg 4 .d
  | .res4E => .resReg 4 .e
  | .res4H => .resReg 4 .h
  | .res4L => .resReg 4 .l
  | .res4MemHl => .resMem 4
  | .res4A => .resReg 4 .a
  | .res5B => .resReg 5 .b
  | .res5C => .resReg 5 .c
  | .res5D => .resReg 5 .d
  | .res5E => .resReg 5 .e
  | .res5H => .resReg 5 .h
  | .res5L => .resReg 5 .l
  | .res5MemHl => .resMem 5
  | .res5A => .resReg 5 .a
  | .res6B => .resReg 6 .b
  | .res6C => .resReg 6 .c
  | .res6D => .resReg 6 .d
  | .res6E => .resReg 6 .e
  | .res6H => .resReg 6 .h
  | .res6L => .resReg 6 .l
  | .res6MemHl => .resMem 6
  | .res6A => .resReg 6 .a
  | .res7B => .resReg 7 .b
  | .res7C => .resReg 7 .c
  | .res7D => .resReg 7 .d
  | .res7E => .resReg 7 .e
  | .res7H => .resReg 7 .h
  | .res7L => .resReg 7 .l
  | .res7MemHl => .resMem 7
  | .res7A => .resReg 7 .a
  | .set0B => .setReg 0 .b
  | .set0C => .setReg 0 .c
  | .set0D => .setReg 0 .d
  | .set0E => .setReg 0 .e
  | .set0H => .setReg 0 .h
  | .set0L => .setReg 0 .l
  | .set0MemHl => .setMem 0
  | .set0A => .setReg 0 .a
  | .set1B => .setReg 1 .b
  | .set1C => .setReg 1 .c
  | .set1D => .setReg 1 .d
  | .set1E => .setReg 1 .e
  | .set1H => .setReg 1 .h
  | .set1L => .setReg 1 .l
  | .set1MemHl => .setMem 1
  | .set1A => .setReg 1 .a
  | .set2B => .setReg 2 .b
  | .set2C => .setReg 2 .c
  | .set2D => .setReg 2 .d
  | .set2E => .setReg 2 .e
  | .set2H => .setReg 2 .h
  | .set2L => .setReg 2 .l
  | .set2MemHl => .setMem 2
  | .set2A => .setReg 2 .a
  | .set3B => .setReg 3 .b
  | .set3C => .setReg 3 .c
  | .set3D => .setReg 3 .d
  | .set3E => .setReg 3 .e
  | .set3H => .setReg 3 .h
  | .set3L => .setReg 3 .l
  | .set3MemHl => .setMem 3
  | .set3A => .setReg 3 .a
  | .set4B => .setReg 4 .b
  | .set4C => .setReg 4 .c
  | .set4D => .setReg 4 .d
  | .set4E => .setReg 4 .e
  | .set4H => .setReg 4 .h
  | .set4L => .setReg 4 .l
  | .set4MemHl => .setMem 4
  | .set4A => .setReg 4 .a
  | .set5B => .setReg 5 .b
  | .set5C => .setReg 5 .c
  | .set5D => .setReg 5 .d
  | .set5E => .setReg 5 .e
  | .set5H => .setReg 5 .h
  | .set5L => .setReg 5 .l
  | .set5MemHl => .setMem 5
  | .set5A => .setReg 5 .a
  | .set6B => .setReg 6 .b
  | .set6C => .setReg 6 .c
  | .set6D => .setReg 6 .d
  | .set6E => .setReg 6 .e
  | .set6H => .setReg 6 .h
  | .set6L => .setReg 6 .l
  | .set6MemHl => .setMem 6
  | .set6A => .setReg 6 .a
  | .set7B => .setReg 7 .b
  | .set7C => .setReg 7 .c
  | .set7D => .setReg 7 .d
  | .set7E => .setReg 7 .e
  | .set7H => .setReg 7 .h
  | .set7L => .setReg 7 .l
  | .set7MemHl => .setMem 7
  | .set7A => .setReg 7 .a

/-- `exec` is the operation of the row's shape. -/
theorem exec_eq_shape (i : Instr) (s : State) : exec i s = (shape i).run s := by
  cases i <;> rfl

/-- The prefix row runs one of the shapes of the 0xCB table. -/
theorem runCb_shape (op : Byte) : ∃ h : Shape, (∀ op', h ≠ .cb op') ∧ ∀ s, runCb op s = h.run s := by
  unfold runCb
  split
  · exact ⟨.rotReg _ _, by simp, fun _ => rfl⟩
  · exact ⟨.rotMem _, by simp, fun _ => rfl⟩
  · exact ⟨.bitReg _ _, by simp, fun _ => rfl⟩
  · exact ⟨.bitMem _, by simp, fun _ => rfl⟩
  · exact ⟨.resReg _ _, by simp, fun _ => rfl⟩
  · exact ⟨.resMem _, by simp, fun _ => rfl⟩
  · exact ⟨.setReg _ _, by simp, fun _ => rfl⟩
  · exact ⟨.setMem _, by simp, fun _ => rfl⟩

/-- Every instruction is one of the shapes but the prefix. -/
theorem exec_shape (i : Instr) : ∃ h : Shape, (∀ op, h ≠ .cb op) ∧ ∀ s, exec i s = h.run s := by
  by_cases hc : ∃ op, shape i = .cb op
  · obtain ⟨op, hc⟩ := hc
    obtain ⟨h, h1, h2⟩ := runCb_shape op
    exact ⟨h, h1, fun s => by rw [exec_eq_shape, hc]; exact h2 s⟩
  · exact ⟨shape i, fun op ho => hc ⟨op, ho⟩, fun s => exec_eq_shape i s⟩

end Sys2Proof.Machine
end

