-- ==== Sys2Proof/Laws/Step.lean ====
section
/-! SUPPORT. What a step can do, said once: facts about every step are proved from these cases and not from `step`. -/

namespace Sys2Proof.Machine

/-- Everything a step that answers a next state has done. -/
theorem step_cases {s t : State} (h : step s = .next t) : s.fault = none ∧
    ((s.pending ≠ 0 ∧ s.ime = true ∧ t = s.dispatch.elapse) ∨
     (s.pending ≠ 0 ∧ s.ime = false ∧ s.halted = true ∧ t = s.wake.elapse) ∨
     (s.pending = 0 ∧ s.halted = true ∧ t = s.idle.elapse) ∨
     ((s.pending = 0 ∨ s.ime = false) ∧ s.halted = false ∧ ∃ u, exec s.fetched s.pastFetch = .next u ∧
       ((u.fault ≠ none ∧ t = u) ∨ (u.fault = none ∧ t = u.bookkeeping.elapse)))) := by
  unfold step at h
  split at h
  · cases h
  · rename_i hf
    refine ⟨hf, ?_⟩
    split at h
    · rename_i hp; cases h; exact .inl ⟨hp.1, hp.2, rfl⟩
    · rename_i hp
      split at h
      · rename_i hw; cases h
        exact .inr (.inl ⟨hw.1, Bool.eq_false_iff.mpr fun hi => hp ⟨hw.1, hi⟩, hw.2, rfl⟩)
      · rename_i hw
        split at h
        · rename_i hh; cases h
          exact .inr (.inr (.inl ⟨by simpa [hh] using hw, hh, rfl⟩))
        · rename_i hh
          refine .inr (.inr (.inr ⟨?_, by simpa using hh, ?_⟩))
          · by_cases h0 : s.pending = 0
            · exact .inl h0
            · exact .inr (Bool.eq_false_iff.mpr fun hi => hp ⟨h0, hi⟩)
          · cases he : exec s.fetched s.pastFetch with
            | next u =>
              rw [he] at h
              refine ⟨u, rfl, ?_⟩
              cases hu : u.fault with
              | none => simp only [afterExec, hu, Option.isSome_none, Bool.false_eq_true, if_false] at h; cases h; exact .inr ⟨rfl, rfl⟩
              | some r => simp only [afterExec, hu, Option.isSome_some, if_true] at h; cases h; exact .inl ⟨by simp, rfl⟩
            | fault r => rw [he] at h; cases h
            | refused r => rw [he] at h; cases h

/-- When the machine runs an instruction, the step is `exec` with what follows it. -/
theorem step_executes {s : State} (hf : s.fault = none) (hh : s.halted = false) (hi : s.pending = 0 ∨ s.ime = false) :
    step s = afterExec (exec s.fetched s.pastFetch) := by
  unfold step
  rw [hf]
  simp only
  rw [if_neg, if_neg, if_neg] <;> rcases hi with h | h <;> simp [h, hh]

end Sys2Proof.Machine
end

