-- ==== Sys2Proof/Tests/Slice0.lean ====
section
/-! SUPPORT. The model's own tests. Expected values are the spec's: the encodings of 30_encoding.md and opcode_table.json, the
examples of the instruction rules, the vectors of 95_test_vectors.md. At the end, a witness for each statement with hypotheses. -/

namespace Sys2Proof.Tests

open Sys2Proof Sys2Proof.Machine

/-! ### Words and the instructions they stand for, one row of the opcode maps each (R311, R312; operands 0x7E or 0x1234) -/

/-- Whether every byte string decodes to the instruction beside it, with nothing left over. -/
def reads (ws : List (List Byte × Instr)) : Bool := ws.all fun w => decide (decode w.1 = .ok w.2 [])

theorem test_decode_row_0 : reads [
    ([0x00], .nop), ([0x01, 0x34, 0x12], .ldBcN16 0x1234), ([0x02], .ldMemBcA), ([0x03], .incBc),
    ([0x04], .incB), ([0x05], .decB), ([0x06, 0x7E], .ldBN8 0x7E), ([0x07], .rlca),
    ([0x08, 0x34, 0x12], .ldMemA16Sp 0x1234), ([0x09], .addHlBc), ([0x0A], .ldAMemBc), ([0x0B], .decBc),
    ([0x0C], .incC), ([0x0D], .decC), ([0x0E, 0x7E], .ldCN8 0x7E), ([0x0F], .rrca)] = true := by decide

theorem test_decode_row_1 : reads [
    ([0x10, 0x7E], .stop 0x7E), ([0x11, 0x34, 0x12], .ldDeN16 0x1234), ([0x12], .ldMemDeA), ([0x13], .incDe),
    ([0x14], .incD), ([0x15], .decD), ([0x16, 0x7E], .ldDN8 0x7E), ([0x17], .rla),
    ([0x18, 0x7E], .jrE8 0x7E), ([0x19], .addHlDe), ([0x1A], .ldAMemDe), ([0x1B], .decDe),
    ([0x1C], .incE), ([0x1D], .decE), ([0x1E, 0x7E], .ldEN8 0x7E), ([0x1F], .rra)] = true := by decide

theorem test_decode_row_2 : reads [
    ([0x20, 0x7E], .jrNzE8 0x7E), ([0x21, 0x34, 0x12], .ldHlN16 0x1234), ([0x22], .ldMemHlIncA), ([0x23], .incHl),
    ([0x24], .incH), ([0x25], .decH), ([0x26, 0x7E], .ldHN8 0x7E), ([0x27], .daa),
    ([0x28, 0x7E], .jrZE8 0x7E), ([0x29], .addHlHl), ([0x2A], .ldAMemHlInc), ([0x2B], .decHl),
    ([0x2C], .incL), ([0x2D], .decL), ([0x2E, 0x7E], .ldLN8 0x7E), ([0x2F], .cpl)] = true := by decide

theorem test_decode_row_3 : reads [
    ([0x30, 0x7E], .jrNcE8 0x7E), ([0x31, 0x34, 0x12], .ldSpN16 0x1234), ([0x32], .ldMemHlDecA), ([0x33], .incSp),
    ([0x34], .incMemHl), ([0x35], .decMemHl), ([0x36, 0x7E], .ldMemHlN8 0x7E), ([0x37], .scf),
    ([0x38, 0x7E], .jrCE8 0x7E), ([0x39], .addHlSp), ([0x3A], .ldAMemHlDec), ([0x3B], .decSp),
    ([0x3C], .incA), ([0x3D], .decA), ([0x3E, 0x7E], .ldAN8 0x7E), ([0x3F], .ccf)] = true := by decide

theorem test_decode_row_4 : reads [
    ([0x40], .ldBB), ([0x41], .ldBC), ([0x42], .ldBD), ([0x43], .ldBE),
    ([0x44], .ldBH), ([0x45], .ldBL), ([0x46], .ldBMemHl), ([0x47], .ldBA),
    ([0x48], .ldCB), ([0x49], .ldCC), ([0x4A], .ldCD), ([0x4B], .ldCE),
    ([0x4C], .ldCH), ([0x4D], .ldCL), ([0x4E], .ldCMemHl), ([0x4F], .ldCA)] = true := by decide

theorem test_decode_row_5 : reads [
    ([0x50], .ldDB), ([0x51], .ldDC), ([0x52], .ldDD), ([0x53], .ldDE),
    ([0x54], .ldDH), ([0x55], .ldDL), ([0x56], .ldDMemHl), ([0x57], .ldDA),
    ([0x58], .ldEB), ([0x59], .ldEC), ([0x5A], .ldED), ([0x5B], .ldEE),
    ([0x5C], .ldEH), ([0x5D], .ldEL), ([0x5E], .ldEMemHl), ([0x5F], .ldEA)] = true := by decide

theorem test_decode_row_6 : reads [
    ([0x60], .ldHB), ([0x61], .ldHC), ([0x62], .ldHD), ([0x63], .ldHE),
    ([0x64], .ldHH), ([0x65], .ldHL), ([0x66], .ldHMemHl), ([0x67], .ldHA),
    ([0x68], .ldLB), ([0x69], .ldLC), ([0x6A], .ldLD), ([0x6B], .ldLE),
    ([0x6C], .ldLH), ([0x6D], .ldLL), ([0x6E], .ldLMemHl), ([0x6F], .ldLA)] = true := by decide

theorem test_decode_row_7 : reads [
    ([0x70], .ldMemHlB), ([0x71], .ldMemHlC), ([0x72], .ldMemHlD), ([0x73], .ldMemHlE),
    ([0x74], .ldMemHlH), ([0x75], .ldMemHlL), ([0x76], .halt), ([0x77], .ldMemHlA),
    ([0x78], .ldAB), ([0x79], .ldAC), ([0x7A], .ldAD), ([0x7B], .ldAE),
    ([0x7C], .ldAH), ([0x7D], .ldAL), ([0x7E], .ldAMemHl), ([0x7F], .ldAA)] = true := by decide

theorem test_decode_row_8 : reads [
    ([0x80], .addAB), ([0x81], .addAC), ([0x82], .addAD), ([0x83], .addAE),
    ([0x84], .addAH), ([0x85], .addAL), ([0x86], .addAMemHl), ([0x87], .addAA),
    ([0x88], .adcAB), ([0x89], .adcAC), ([0x8A], .adcAD), ([0x8B], .adcAE),
    ([0x8C], .adcAH), ([0x8D], .adcAL), ([0x8E], .adcAMemHl), ([0x8F], .adcAA)] = true := by decide

theorem test_decode_row_9 : reads [
    ([0x90], .subB), ([0x91], .subC), ([0x92], .subD), ([0x93], .subE),
    ([0x94], .subH), ([0x95], .subL), ([0x96], .subMemHl), ([0x97], .subA),
    ([0x98], .sbcAB), ([0x99], .sbcAC), ([0x9A], .sbcAD), ([0x9B], .sbcAE),
    ([0x9C], .sbcAH), ([0x9D], .sbcAL), ([0x9E], .sbcAMemHl), ([0x9F], .sbcAA)] = true := by decide

theorem test_decode_row_a : reads [
    ([0xA0], .andB), ([0xA1], .andC), ([0xA2], .andD), ([0xA3], .andE),
    ([0xA4], .andH), ([0xA5], .andL), ([0xA6], .andMemHl), ([0xA7], .andA),
    ([0xA8], .xorB), ([0xA9], .xorC), ([0xAA], .xorD), ([0xAB], .xorE),
    ([0xAC], .xorH), ([0xAD], .xorL), ([0xAE], .xorMemHl), ([0xAF], .xorA)] = true := by decide

theorem test_decode_row_b : reads [
    ([0xB0], .orB), ([0xB1], .orC), ([0xB2], .orD), ([0xB3], .orE),
    ([0xB4], .orH), ([0xB5], .orL), ([0xB6], .orMemHl), ([0xB7], .orA),
    ([0xB8], .cpB), ([0xB9], .cpC), ([0xBA], .cpD), ([0xBB], .cpE),
    ([0xBC], .cpH), ([0xBD], .cpL), ([0xBE], .cpMemHl), ([0xBF], .cpA)] = true := by decide

theorem test_decode_row_c : reads [
    ([0xC0], .retNz), ([0xC1], .popBc), ([0xC2, 0x34, 0x12], .jpNzA16 0x1234), ([0xC3, 0x34, 0x12], .jpA16 0x1234),
    ([0xC4, 0x34, 0x12], .callNzA16 0x1234), ([0xC5], .pushBc), ([0xC6, 0x7E], .addAN8 0x7E), ([0xC7], .rst00h),
    ([0xC8], .retZ), ([0xC9], .ret), ([0xCA, 0x34, 0x12], .jpZA16 0x1234), ([0xCC, 0x34, 0x12], .callZA16 0x1234),
    ([0xCD, 0x34, 0x12], .callA16 0x1234), ([0xCE, 0x7E], .adcAN8 0x7E), ([0xCF], .rst08h)] = true := by decide

theorem test_decode_row_d : reads [
    ([0xD0], .retNc), ([0xD1], .popDe), ([0xD2, 0x34, 0x12], .jpNcA16 0x1234), ([0xD3], .illegalD3),
    ([0xD4, 0x34, 0x12], .callNcA16 0x1234), ([0xD5], .pushDe), ([0xD6, 0x7E], .subN8 0x7E), ([0xD7], .rst10h),
    ([0xD8], .retC), ([0xD9], .reti), ([0xDA, 0x34, 0x12], .jpCA16 0x1234), ([0xDB], .illegalDB),
    ([0xDC, 0x34, 0x12], .callCA16 0x1234), ([0xDD], .illegalDD), ([0xDE, 0x7E], .sbcAN8 0x7E), ([0xDF], .rst18h)] = true := by decide

theorem test_decode_row_e : reads [
    ([0xE0, 0x7E], .ldhMemA8A 0x7E), ([0xE1], .popHl), ([0xE2], .ldMemCA), ([0xE3], .illegalE3),
    ([0xE4], .illegalE4), ([0xE5], .pushHl), ([0xE6, 0x7E], .andN8 0x7E), ([0xE7], .rst20h),
    ([0xE8, 0x7E], .addSpE8 0x7E), ([0xE9], .jpHl), ([0xEA, 0x34, 0x12], .ldMemA16A 0x1234), ([0xEB], .illegalEB),
    ([0xEC], .illegalEC), ([0xED], .illegalED), ([0xEE, 0x7E], .xorN8 0x7E), ([0xEF], .rst28h)] = true := by decide

theorem test_decode_row_f : reads [
    ([0xF0, 0x7E], .ldhAMemA8 0x7E), ([0xF1], .popAf), ([0xF2], .ldAMemC), ([0xF3], .di),
    ([0xF4], .illegalF4), ([0xF5], .pushAf), ([0xF6, 0x7E], .orN8 0x7E), ([0xF7], .rst30h),
    ([0xF8, 0x7E], .ldHlSpE8 0x7E), ([0xF9], .ldSpHl), ([0xFA, 0x34, 0x12], .ldAMemA16 0x1234), ([0xFB], .ei),
    ([0xFC], .illegalFC), ([0xFD], .illegalFD), ([0xFE, 0x7E], .cpN8 0x7E), ([0xFF], .rst38h)] = true := by decide

theorem test_decode_row_cb0 : reads [
    ([0xCB, 0x00], .rlcB), ([0xCB, 0x01], .rlcC), ([0xCB, 0x02], .rlcD), ([0xCB, 0x03], .rlcE),
    ([0xCB, 0x04], .rlcH), ([0xCB, 0x05], .rlcL), ([0xCB, 0x06], .rlcMemHl), ([0xCB, 0x07], .rlcA),
    ([0xCB, 0x08], .rrcB), ([0xCB, 0x09], .rrcC), ([0xCB, 0x0A], .rrcD), ([0xCB, 0x0B], .rrcE),
    ([0xCB, 0x0C], .rrcH), ([0xCB, 0x0D], .rrcL), ([0xCB, 0x0E], .rrcMemHl), ([0xCB, 0x0F], .rrcA)] = true := by decide

theorem test_decode_row_cb1 : reads [
    ([0xCB, 0x10], .rlB), ([0xCB, 0x11], .rlC), ([0xCB, 0x12], .rlD), ([0xCB, 0x13], .rlE),
    ([0xCB, 0x14], .rlH), ([0xCB, 0x15], .rlL), ([0xCB, 0x16], .rlMemHl), ([0xCB, 0x17], .rlA),
    ([0xCB, 0x18], .rrB), ([0xCB, 0x19], .rrC), ([0xCB, 0x1A], .rrD), ([0xCB, 0x1B], .rrE),
    ([0xCB, 0x1C], .rrH), ([0xCB, 0x1D], .rrL), ([0xCB, 0x1E], .rrMemHl), ([0xCB, 0x1F], .rrA)] = true := by decide

theorem test_decode_row_cb2 : reads [
    ([0xCB, 0x20], .slaB), ([0xCB, 0x21], .slaC), ([0xCB, 0x22], .slaD), ([0xCB, 0x23], .slaE),
    ([0xCB, 0x24], .slaH), ([0xCB, 0x25], .slaL), ([0xCB, 0x26], .slaMemHl), ([0xCB, 0x27], .slaA),
    ([0xCB, 0x28], .sraB), ([0xCB, 0x29], .sraC), ([0xCB, 0x2A], .sraD), ([0xCB, 0x2B], .sraE),
    ([0xCB, 0x2C], .sraH), ([0xCB, 0x2D], .sraL), ([0xCB, 0x2E], .sraMemHl), ([0xCB, 0x2F], .sraA)] = true := by decide

theorem test_decode_row_cb3 : reads [
    ([0xCB, 0x30], .swapB), ([0xCB, 0x31], .swapC), ([0xCB, 0x32], .swapD), ([0xCB, 0x33], .swapE),
    ([0xCB, 0x34], .swapH), ([0xCB, 0x35], .swapL), ([0xCB, 0x36], .swapMemHl), ([0xCB, 0x37], .swapA),
    ([0xCB, 0x38], .srlB), ([0xCB, 0x39], .srlC), ([0xCB, 0x3A], .srlD), ([0xCB, 0x3B], .srlE),
    ([0xCB, 0x3C], .srlH), ([0xCB, 0x3D], .srlL), ([0xCB, 0x3E], .srlMemHl), ([0xCB, 0x3F], .srlA)] = true := by decide

theorem test_decode_row_cb4 : reads [
    ([0xCB, 0x40], .bit0B), ([0xCB, 0x41], .bit0C), ([0xCB, 0x42], .bit0D), ([0xCB, 0x43], .bit0E),
    ([0xCB, 0x44], .bit0H), ([0xCB, 0x45], .bit0L), ([0xCB, 0x46], .bit0MemHl), ([0xCB, 0x47], .bit0A),
    ([0xCB, 0x48], .bit1B), ([0xCB, 0x49], .bit1C), ([0xCB, 0x4A], .bit1D), ([0xCB, 0x4B], .bit1E),
    ([0xCB, 0x4C], .bit1H), ([0xCB, 0x4D], .bit1L), ([0xCB, 0x4E], .bit1MemHl), ([0xCB, 0x4F], .bit1A)] = true := by decide

theorem test_decode_row_cb5 : reads [
    ([0xCB, 0x50], .bit2B), ([0xCB, 0x51], .bit2C), ([0xCB, 0x52], .bit2D), ([0xCB, 0x53], .bit2E),
    ([0xCB, 0x54], .bit2H), ([0xCB, 0x55], .bit2L), ([0xCB, 0x56], .bit2MemHl), ([0xCB, 0x57], .bit2A),
    ([0xCB, 0x58], .bit3B), ([0xCB, 0x59], .bit3C), ([0xCB, 0x5A], .bit3D), ([0xCB, 0x5B], .bit3E),
    ([0xCB, 0x5C], .bit3H), ([0xCB, 0x5D], .bit3L), ([0xCB, 0x5E], .bit3MemHl), ([0xCB, 0x5F], .bit3A)] = true := by decide

theorem test_decode_row_cb6 : reads [
    ([0xCB, 0x60], .bit4B), ([0xCB, 0x61], .bit4C), ([0xCB, 0x62], .bit4D), ([0xCB, 0x63], .bit4E),
    ([0xCB, 0x64], .bit4H), ([0xCB, 0x65], .bit4L), ([0xCB, 0x66], .bit4MemHl), ([0xCB, 0x67], .bit4A),
    ([0xCB, 0x68], .bit5B), ([0xCB, 0x69], .bit5C), ([0xCB, 0x6A], .bit5D), ([0xCB, 0x6B], .bit5E),
    ([0xCB, 0x6C], .bit5H), ([0xCB, 0x6D], .bit5L), ([0xCB, 0x6E], .bit5MemHl), ([0xCB, 0x6F], .bit5A)] = true := by decide

theorem test_decode_row_cb7 : reads [
    ([0xCB, 0x70], .bit6B), ([0xCB, 0x71], .bit6C), ([0xCB, 0x72], .bit6D), ([0xCB, 0x73], .bit6E),
    ([0xCB, 0x74], .bit6H), ([0xCB, 0x75], .bit6L), ([0xCB, 0x76], .bit6MemHl), ([0xCB, 0x77], .bit6A),
    ([0xCB, 0x78], .bit7B), ([0xCB, 0x79], .bit7C), ([0xCB, 0x7A], .bit7D), ([0xCB, 0x7B], .bit7E),
    ([0xCB, 0x7C], .bit7H), ([0xCB, 0x7D], .bit7L), ([0xCB, 0x7E], .bit7MemHl), ([0xCB, 0x7F], .bit7A)] = true := by decide

theorem test_decode_row_cb8 : reads [
    ([0xCB, 0x80], .res0B), ([0xCB, 0x81], .res0C), ([0xCB, 0x82], .res0D), ([0xCB, 0x83], .res0E),
    ([0xCB, 0x84], .res0H), ([0xCB, 0x85], .res0L), ([0xCB, 0x86], .res0MemHl), ([0xCB, 0x87], .res0A),
    ([0xCB, 0x88], .res1B), ([0xCB, 0x89], .res1C), ([0xCB, 0x8A], .res1D), ([0xCB, 0x8B], .res1E),
    ([0xCB, 0x8C], .res1H), ([0xCB, 0x8D], .res1L), ([0xCB, 0x8E], .res1MemHl), ([0xCB, 0x8F], .res1A)] = true := by decide

theorem test_decode_row_cb9 : reads [
    ([0xCB, 0x90], .res2B), ([0xCB, 0x91], .res2C), ([0xCB, 0x92], .res2D), ([0xCB, 0x93], .res2E),
    ([0xCB, 0x94], .res2H), ([0xCB, 0x95], .res2L), ([0xCB, 0x96], .res2MemHl), ([0xCB, 0x97], .res2A),
    ([0xCB, 0x98], .res3B), ([0xCB, 0x99], .res3C), ([0xCB, 0x9A], .res3D), ([0xCB, 0x9B], .res3E),
    ([0xCB, 0x9C], .res3H), ([0xCB, 0x9D], .res3L), ([0xCB, 0x9E], .res3MemHl), ([0xCB, 0x9F], .res3A)] = true := by decide

theorem test_decode_row_cba : reads [
    ([0xCB, 0xA0], .res4B), ([0xCB, 0xA1], .res4C), ([0xCB, 0xA2], .res4D), ([0xCB, 0xA3], .res4E),
    ([0xCB, 0xA4], .res4H), ([0xCB, 0xA5], .res4L), ([0xCB, 0xA6], .res4MemHl), ([0xCB, 0xA7], .res4A),
    ([0xCB, 0xA8], .res5B), ([0xCB, 0xA9], .res5C), ([0xCB, 0xAA], .res5D), ([0xCB, 0xAB], .res5E),
    ([0xCB, 0xAC], .res5H), ([0xCB, 0xAD], .res5L), ([0xCB, 0xAE], .res5MemHl), ([0xCB, 0xAF], .res5A)] = true := by decide

theorem test_decode_row_cbb : reads [
    ([0xCB, 0xB0], .res6B), ([0xCB, 0xB1], .res6C), ([0xCB, 0xB2], .res6D), ([0xCB, 0xB3], .res6E),
    ([0xCB, 0xB4], .res6H), ([0xCB, 0xB5], .res6L), ([0xCB, 0xB6], .res6MemHl), ([0xCB, 0xB7], .res6A),
    ([0xCB, 0xB8], .res7B), ([0xCB, 0xB9], .res7C), ([0xCB, 0xBA], .res7D), ([0xCB, 0xBB], .res7E),
    ([0xCB, 0xBC], .res7H), ([0xCB, 0xBD], .res7L), ([0xCB, 0xBE], .res7MemHl), ([0xCB, 0xBF], .res7A)] = true := by decide

theorem test_decode_row_cbc : reads [
    ([0xCB, 0xC0], .set0B), ([0xCB, 0xC1], .set0C), ([0xCB, 0xC2], .set0D), ([0xCB, 0xC3], .set0E),
    ([0xCB, 0xC4], .set0H), ([0xCB, 0xC5], .set0L), ([0xCB, 0xC6], .set0MemHl), ([0xCB, 0xC7], .set0A),
    ([0xCB, 0xC8], .set1B), ([0xCB, 0xC9], .set1C), ([0xCB, 0xCA], .set1D), ([0xCB, 0xCB], .set1E),
    ([0xCB, 0xCC], .set1H), ([0xCB, 0xCD], .set1L), ([0xCB, 0xCE], .set1MemHl), ([0xCB, 0xCF], .set1A)] = true := by decide

theorem test_decode_row_cbd : reads [
    ([0xCB, 0xD0], .set2B), ([0xCB, 0xD1], .set2C), ([0xCB, 0xD2], .set2D), ([0xCB, 0xD3], .set2E),
    ([0xCB, 0xD4], .set2H), ([0xCB, 0xD5], .set2L), ([0xCB, 0xD6], .set2MemHl), ([0xCB, 0xD7], .set2A),
    ([0xCB, 0xD8], .set3B), ([0xCB, 0xD9], .set3C), ([0xCB, 0xDA], .set3D), ([0xCB, 0xDB], .set3E),
    ([0xCB, 0xDC], .set3H), ([0xCB, 0xDD], .set3L), ([0xCB, 0xDE], .set3MemHl), ([0xCB, 0xDF], .set3A)] = true := by decide

theorem test_decode_row_cbe : reads [
    ([0xCB, 0xE0], .set4B), ([0xCB, 0xE1], .set4C), ([0xCB, 0xE2], .set4D), ([0xCB, 0xE3], .set4E),
    ([0xCB, 0xE4], .set4H), ([0xCB, 0xE5], .set4L), ([0xCB, 0xE6], .set4MemHl), ([0xCB, 0xE7], .set4A),
    ([0xCB, 0xE8], .set5B), ([0xCB, 0xE9], .set5C), ([0xCB, 0xEA], .set5D), ([0xCB, 0xEB], .set5E),
    ([0xCB, 0xEC], .set5H), ([0xCB, 0xED], .set5L), ([0xCB, 0xEE], .set5MemHl), ([0xCB, 0xEF], .set5A)] = true := by decide

theorem test_decode_row_cbf : reads [
    ([0xCB, 0xF0], .set6B), ([0xCB, 0xF1], .set6C), ([0xCB, 0xF2], .set6D), ([0xCB, 0xF3], .set6E),
    ([0xCB, 0xF4], .set6H), ([0xCB, 0xF5], .set6L), ([0xCB, 0xF6], .set6MemHl), ([0xCB, 0xF7], .set6A),
    ([0xCB, 0xF8], .set7B), ([0xCB, 0xF9], .set7C), ([0xCB, 0xFA], .set7D), ([0xCB, 0xFB], .set7E),
    ([0xCB, 0xFC], .set7H), ([0xCB, 0xFD], .set7L), ([0xCB, 0xFE], .set7MemHl), ([0xCB, 0xFF], .set7A)] = true := by decide

/-! ### Well-formed terms -/

/-- The one ill-formed shape, the prefix row as a term of its own, is refused. -/
theorem test_wellFormed_refuses_prefix_row : (Instr.prefixCb 0x37).wellFormed = false := by decide

theorem test_wellFormed_accepts_selected_row : Instr.swapA.wellFormed = true := by decide

/-- The decoder refuses by name: no byte, and an instruction cut short. -/
theorem test_decode_refuses_short_lists :
    decode [] = .error .empty ∧ decode [0xCB] = .error (.truncated 0xCB) ∧ decode [0xC3, 0x50] = .error (.truncated 0xC3) := by decide

/-- The opcode table's own numbering of a row after 0xCB, and of an unprefixed one. -/
theorem test_decodeTableWord : decodeTableWord 16 0xCB37 = some .swapA ∧ decodeTableWord 8 0x3E = some (.ldAN8 0x00) := by decide

/-! ### One step on a small state -/

/-- The machine behind the test `BUS` of spec/95_test_vectors.md, all flags clear. -/
def flat : State := { State.reset with f := 0x00, pc := 0x0200, params := { Params.default with bus := .flat } }

/-- The machine behind the default `BUS`, with work RAM to run in. -/
def console : State := { State.reset with f := 0x00, pc := 0xD000 }

/-- What `g` sees after one step from `s` with `code` at its PC. -/
def after {α : Type} (code : List Byte) (s : State) (g : State → α) : Option α :=
  match step (s.placeAll s.pc code) with
  | .next t => some (g t)
  | .fault _ => none
  | .refused _ => none

/-! 8-bit loads: the examples of R400 to R418. -/

theorem test_LD_B_C : after [0x41] { flat with b := 0x12, c := 0x34 } (fun t => (t.b, t.c, t.pc, t.cost)) = some (0x34, 0x34, 0x0201, some 4) := by decide
theorem test_LD_A_n8 : after [0x3E, 0x5A] flat (fun t => (t.a, t.pc)) = some (0x5A, 0x0202) := by decide
theorem test_LD_D_HL : after [0x56] { flat with h := 0xC0, l := 0x00, mem := [(0xC000, 0x99)] } (·.d) = some 0x99 := by decide
theorem test_LD_HL_A : after [0x77] { flat with h := 0xC0, l := 0x10, a := 0x42 } (·.read 0xC010) = some 0x42 := by decide
theorem test_LD_HL_n8 : after [0x36, 0x7E] { flat with h := 0xC0, l := 0x20 } (fun t => (t.read 0xC020, t.pc, t.cost)) = some (0x7E, 0x0202, some 12) := by decide
theorem test_LD_A_BC : after [0x0A] { flat with b := 0xC1, c := 0x00, mem := [(0xC100, 0x01)] } (·.a) = some 0x01 := by decide
theorem test_LD_A_DE : after [0x1A] { flat with d := 0xC2, e := 0x00, mem := [(0xC200, 0xF0)] } (·.a) = some 0xF0 := by decide
theorem test_LD_BC_A : after [0x02] { flat with b := 0xC3, c := 0x00, a := 0x11 } (·.read 0xC300) = some 0x11 := by decide
theorem test_LD_DE_A : after [0x12] { flat with d := 0xC3, e := 0x01, a := 0x22 } (·.read 0xC301) = some 0x22 := by decide
theorem test_LD_A_a16 : after [0xFA, 0x00, 0xC4] { flat with mem := [(0xC400, 0x3C)] } (fun t => (t.a, t.pc)) = some (0x3C, 0x0203) := by decide
theorem test_LD_a16_A : after [0xEA, 0xFF, 0xFF] { flat with a := 0x01 } (·.ie) = some 0x01 := by decide
theorem test_LDH_A_a8 : after [0xF0, 0x80] { flat with mem := [(0xFF80, 0x77)] } (·.a) = some 0x77 := by decide
theorem test_LDH_a8_A : after [0xE0, 0x81] { flat with a := 0x05 } (·.read 0xFF81) = some 0x05 := by decide
theorem test_LD_A_C : after [0xF2] { flat with c := 0x82, mem := [(0xFF82, 0xAB)] } (·.a) = some 0xAB := by decide
theorem test_LD_C_A : after [0xE2] { flat with c := 0x83, a := 0xCD } (·.read 0xFF83) = some 0xCD := by decide
theorem test_LD_HLinc_A : after [0x22] { flat with h := 0xC0, l := 0x00, a := 0x10 } (fun t => (t.read 0xC000, t.hl)) = some (0x10, 0xC001) := by decide
theorem test_LD_HLdec_A : after [0x32] { flat with h := 0xC0, l := 0xFF, a := 0x20 } (fun t => (t.read 0xC0FF, t.hl)) = some (0x20, 0xC0FE) := by decide
theorem test_LD_A_HLinc : after [0x2A] { flat with h := 0xC0, l := 0x00, mem := [(0xC000, 0x44)] } (fun t => (t.a, t.hl)) = some (0x44, 0xC001) := by decide
theorem test_LD_A_HLdec : after [0x3A] { flat with h := 0xC0, l := 0x01, mem := [(0xC001, 0x55)] } (fun t => (t.a, t.hl)) = some (0x55, 0xC000) := by decide

/-! 16-bit loads: R450 to R456. -/

theorem test_LD_SP_n16 : after [0x31, 0xFE, 0xFF] { flat with sp := 0 } (fun t => (t.sp, t.pc)) = some (0xFFFE, 0x0203) := by decide
theorem test_LD_a16_SP : after [0x08, 0x00, 0xC1] { flat with sp := 0xFFF8 } (fun t => (t.read 0xC100, t.read 0xC101)) = some (0xF8, 0xFF) := by decide
theorem test_LD_SP_HL : after [0xF9] { flat with h := 0xDF, l := 0xF0 } (·.sp) = some 0xDFF0 := by decide
theorem test_PUSH_BC : after [0xC5] { flat with b := 0x12, c := 0x34 } (fun t => (t.read 0xFFFD, t.read 0xFFFC, t.sp)) = some (0x12, 0x34, 0xFFFC) := by decide
theorem test_POP_DE : after [0xD1] { flat with sp := 0xFFFC, mem := [(0xFFFC, 0x34), (0xFFFD, 0x12)] } (fun t => (t.de, t.sp)) = some (0x1234, 0xFFFE) := by decide
theorem test_POP_AF : after [0xF1] { flat with sp := 0xC000, mem := [(0xC000, 0xFF), (0xC001, 0x12)] } (fun t => (t.a, t.f, t.sp)) = some (0x12, 0xF0, 0xC002) := by decide
theorem test_LD_HL_SP_e8 : after [0xF8, 0x02] { flat with sp := 0xFFF8 } (fun t => (t.hl, t.f)) = some (0xFFFA, 0x00) := by decide

/-! 8-bit arithmetic and logic: R510 to R553. -/

theorem test_ADD_A_B : after [0x80] { flat with a := 0x3A, b := 0xC6 } (fun t => (t.a, t.f)) = some (0x00, 0xB0) := by decide
theorem test_ADD_A_HL : after [0x86] { flat with a := 0x3C, h := 0xC0, l := 0x00, mem := [(0xC000, 0x12)] } (fun t => (t.a, t.f)) = some (0x4E, 0x00) := by decide
theorem test_ADD_A_n8 : after [0xC6, 0x01] { flat with a := 0x0F } (fun t => (t.a, t.f)) = some (0x10, 0x20) := by decide
theorem test_ADC_A_E : after [0x8B] { flat with a := 0xE1, e := 0x0F, f := 0x10 } (fun t => (t.a, t.f)) = some (0xF1, 0x20) := by decide
theorem test_ADC_A_HL : after [0x8E] { flat with a := 0xE1, f := 0x10, h := 0xC0, l := 0x00, mem := [(0xC000, 0x1E)] } (fun t => (t.a, t.f)) = some (0x00, 0xB0) := by decide
theorem test_ADC_A_n8 : after [0xCE, 0x3B] { flat with a := 0xE1, f := 0x10 } (fun t => (t.a, t.f)) = some (0x1D, 0x10) := by decide
theorem test_SUB_E : after [0x93] { flat with a := 0x3E, e := 0x3E } (fun t => (t.a, t.f)) = some (0x00, 0xC0) := by decide
theorem test_SUB_HL : after [0x96] { flat with a := 0x3E, h := 0xC0, l := 0x00, mem := [(0xC000, 0x40)] } (fun t => (t.a, t.f)) = some (0xFE, 0x50) := by decide
theorem test_SUB_n8 : after [0xD6, 0x0F] { flat with a := 0x3E } (fun t => (t.a, t.f)) = some (0x2F, 0x60) := by decide
theorem test_SBC_A_H : after [0x9C] { flat with a := 0x3B, h := 0x2A, f := 0x10 } (fun t => (t.a, t.f)) = some (0x10, 0x40) := by decide
theorem test_SBC_A_HL : after [0x9E] { flat with a := 0x3B, f := 0x10, h := 0xC0, l := 0x00, mem := [(0xC000, 0x4F)] } (fun t => (t.a, t.f)) = some (0xEB, 0x70) := by decide
theorem test_SBC_A_n8 : after [0xDE, 0x3A] { flat with a := 0x3B, f := 0x10 } (fun t => (t.a, t.f)) = some (0x00, 0xC0) := by decide
theorem test_AND_L : after [0xA5] { flat with a := 0x5A, l := 0x3F } (fun t => (t.a, t.f)) = some (0x1A, 0x20) := by decide
theorem test_AND_n8 : after [0xE6, 0x38] { flat with a := 0x5A } (fun t => (t.a, t.f)) = some (0x18, 0x20) := by decide
theorem test_XOR_A : after [0xAF] { flat with a := 0x42 } (fun t => (t.a, t.f)) = some (0x00, 0x80) := by decide
theorem test_XOR_HL : after [0xAE] { flat with a := 0xFF, h := 0xC0, l := 0x00, mem := [(0xC000, 0x8A)] } (fun t => (t.a, t.f)) = some (0x75, 0x00) := by decide
theorem test_OR_n8 : after [0xF6, 0x00] { flat with a := 0x00 } (fun t => (t.a, t.f)) = some (0x00, 0x80) := by decide
theorem test_CP_B : after [0xB8] { flat with a := 0x3C, b := 0x2F } (fun t => (t.a, t.f)) = some (0x3C, 0x60) := by decide
theorem test_CP_HL : after [0xBE] { flat with a := 0x3C, h := 0xC0, l := 0x00, mem := [(0xC000, 0x40)] } (fun t => (t.a, t.f)) = some (0x3C, 0x50) := by decide
theorem test_INC_A : after [0x3C] { flat with a := 0xFF, f := 0x10 } (fun t => (t.a, t.f)) = some (0x00, 0xB0) := by decide
theorem test_INC_HL_byte : after [0x34] { flat with h := 0xC0, l := 0x00, mem := [(0xC000, 0x50)] } (fun t => (t.read 0xC000, t.f)) = some (0x51, 0x00) := by decide
theorem test_DEC_L : after [0x2D] { flat with l := 0x01 } (fun t => (t.l, t.f)) = some (0x00, 0xC0) := by decide
theorem test_DEC_HL_byte : after [0x35] { flat with h := 0xC0, l := 0x00, f := 0x10 } (fun t => (t.read 0xC000, t.f)) = some (0xFF, 0x70) := by decide
theorem test_DAA_after_add : after [0x27] { flat with a := 0x7D } (fun t => (t.a, t.f)) = some (0x83, 0x00) := by decide
theorem test_DAA_after_sub : after [0x27] { flat with a := 0x4B, f := 0x60 } (fun t => (t.a, t.f)) = some (0x45, 0x40) := by decide
theorem test_CPL : after [0x2F] { flat with a := 0x35 } (fun t => (t.a, t.f)) = some (0xCA, 0x60) := by decide
theorem test_SCF : after [0x37] { flat with f := 0xE0 } (·.f) = some 0x90 := by decide
theorem test_CCF : after [0x3F] { flat with f := 0x70 } (·.f) = some 0x00 := by decide

/-! 16-bit arithmetic: R600 to R604. -/

theorem test_INC_BC : after [0x03] { flat with b := 0x00, c := 0xFF } (fun t => (t.bc, t.f)) = some (0x0100, 0x00) := by decide
theorem test_DEC_DE : after [0x1B] { flat with d := 0x00, e := 0x00 } (fun t => (t.de, t.f)) = some (0xFFFF, 0x00) := by decide
theorem test_ADD_HL_BC : after [0x09] { flat with h := 0x8A, l := 0x23, b := 0x06, c := 0x05 } (fun t => (t.hl, t.f)) = some (0x9028, 0x20) := by decide
theorem test_ADD_HL_HL : after [0x29] { flat with h := 0x8A, l := 0x23 } (fun t => (t.hl, t.f)) = some (0x1446, 0x30) := by decide
theorem test_ADD_SP_e8 : after [0xE8, 0x08] { flat with sp := 0xFFF8 } (fun t => (t.sp, t.f)) = some (0x0000, 0x30) := by decide
theorem test_ADD_SP_negative : after [0xE8, 0xFE] { flat with sp := 0xD000 } (fun t => (t.sp, t.f)) = some (0xCFFE, 0x00) := by decide

/-! Rotates, shifts and bits: R650 to R685. -/

theorem test_RLCA : after [0x07] { flat with a := 0x85 } (fun t => (t.a, t.f)) = some (0x0B, 0x10) := by decide
theorem test_RLCA_of_zero : after [0x07] { flat with a := 0x00 } (fun t => (t.a, t.f)) = some (0x00, 0x00) := by decide
theorem test_RRCA : after [0x0F] { flat with a := 0x3B } (fun t => (t.a, t.f)) = some (0x9D, 0x10) := by decide
theorem test_RLA : after [0x17] { flat with a := 0x95, f := 0x10 } (fun t => (t.a, t.f)) = some (0x2B, 0x10) := by decide
theorem test_RRA : after [0x1F] { flat with a := 0x81 } (fun t => (t.a, t.f)) = some (0x40, 0x10) := by decide
theorem test_RLC_B : after [0xCB, 0x00] { flat with b := 0x85 } (fun t => (t.b, t.f, t.pc)) = some (0x0B, 0x10, 0x0202) := by decide
theorem test_RRC_C : after [0xCB, 0x09] { flat with c := 0x01 } (fun t => (t.c, t.f)) = some (0x80, 0x10) := by decide
theorem test_RL_L : after [0xCB, 0x15] { flat with l := 0x80 } (fun t => (t.l, t.f)) = some (0x00, 0x90) := by decide
theorem test_RL_HL : after [0xCB, 0x16] { flat with h := 0xC0, l := 0x00, mem := [(0xC000, 0x11)] } (fun t => (t.read 0xC000, t.f)) = some (0x22, 0x00) := by decide
theorem test_RR_A : after [0xCB, 0x1F] { flat with a := 0x01 } (fun t => (t.a, t.f)) = some (0x00, 0x90) := by decide
theorem test_SLA_D : after [0xCB, 0x22] { flat with d := 0x80 } (fun t => (t.d, t.f)) = some (0x00, 0x90) := by decide
theorem test_SRA_A : after [0xCB, 0x2F] { flat with a := 0x8A } (fun t => (t.a, t.f)) = some (0xC5, 0x00) := by decide
theorem test_SRA_HL : after [0xCB, 0x2E] { flat with h := 0xC0, l := 0x00, mem := [(0xC000, 0x01)] } (fun t => (t.read 0xC000, t.f, t.cost)) = some (0x00, 0x90, some 16) := by decide
theorem test_SWAP_A : after [0xCB, 0x37] { flat with a := 0xF1 } (fun t => (t.a, t.f)) = some (0x1F, 0x00) := by decide
theorem test_SRL_HL : after [0xCB, 0x3E] { flat with h := 0xC0, l := 0x00, mem := [(0xC000, 0xFF)] } (fun t => (t.read 0xC000, t.f)) = some (0x7F, 0x10) := by decide
theorem test_BIT_7_H : after [0xCB, 0x7C] { flat with h := 0x80 } (·.f) = some 0x20 := by decide
theorem test_BIT_4_L : after [0xCB, 0x65] { flat with l := 0xEF, f := 0x10 } (·.f) = some 0xB0 := by decide
theorem test_BIT_0_HL : after [0xCB, 0x46] { flat with h := 0xC0, l := 0x00, mem := [(0xC000, 0xFE)] } (fun t => (t.f, t.cost)) = some (0xA0, some 12) := by decide
theorem test_RES_7_A : after [0xCB, 0xBF] { flat with a := 0x80, f := 0x50 } (fun t => (t.a, t.f)) = some (0x00, 0x50) := by decide
theorem test_RES_1_HL : after [0xCB, 0x8E] { flat with h := 0xC0, l := 0x00, mem := [(0xC000, 0xFF)] } (·.read 0xC000) = some 0xFD := by decide
theorem test_SET_3_A : after [0xCB, 0xDF] { flat with a := 0x80 } (·.a) = some 0x88 := by decide
theorem test_SET_0_HL : after [0xCB, 0xC6] { flat with h := 0xC0, l := 0x00 } (·.read 0xC000) = some 0x01 := by decide

/-! Control transfer: R750 to R761. -/

theorem test_JP_a16 : after [0xC3, 0x50, 0x01] flat (fun t => (t.pc, t.cost)) = some (0x0150, some 16) := by decide
theorem test_JP_NZ_not_taken : after [0xC2, 0x00, 0x40] { flat with f := 0x80 } (fun t => (t.pc, t.cost)) = some (0x0203, some 12) := by decide
theorem test_JP_HL : after [0xE9] { flat with h := 0x30, l := 0x00 } (fun t => (t.pc, t.cost)) = some (0x3000, some 4) := by decide
theorem test_JR_forward : after [0x18, 0x05] flat (·.pc) = some 0x0207 := by decide
theorem test_JR_to_itself : after [0x18, 0xFE] flat (·.pc) = some 0x0200 := by decide
theorem test_JR_NZ_taken : after [0x20, 0xFB] { flat with pc := 0x0300 } (fun t => (t.pc, t.cost)) = some (0x02FD, some 12) := by decide
theorem test_CALL : after [0xCD, 0x34, 0x12] flat (fun t => (t.read 0xFFFD, t.read 0xFFFC, t.sp, t.pc)) = some (0x02, 0x03, 0xFFFC, 0x1234) := by decide
theorem test_CALL_NC_not_taken : after [0xD4, 0x34, 0x12] { flat with f := 0x10 } (fun t => (t.pc, t.sp, t.cost)) = some (0x0203, 0xFFFE, some 12) := by decide
theorem test_RET : after [0xC9] { flat with sp := 0xFFFC, mem := [(0xFFFC, 0x03), (0xFFFD, 0x02)] } (fun t => (t.pc, t.sp)) = some (0x0203, 0xFFFE) := by decide
theorem test_RET_Z_taken : after [0xC8] { flat with f := 0x80, sp := 0xFFFC, mem := [(0xFFFC, 0x03), (0xFFFD, 0x02)] } (fun t => (t.pc, t.sp, t.cost)) = some (0x0203, 0xFFFE, some 20) := by decide
theorem test_RETI : after [0xD9] { flat with sp := 0xFFFC, mem := [(0xFFFC, 0x50), (0xFFFD, 0x01)] } (fun t => (t.pc, t.sp, t.ime)) = some (0x0150, 0xFFFE, true) := by decide
theorem test_RST_38H : after [0xFF] flat (fun t => (t.read 0xFFFD, t.read 0xFFFC, t.sp, t.pc)) = some (0x02, 0x01, 0xFFFC, 0x0038) := by decide

/-! CPU control, interrupts and faults: R800 to R806, R902, R903, R912. -/

theorem test_NOP : after [0x00] { flat with pc := 0x0100 } (fun t => (t.pc, t.cost)) = some (0x0101, some 4) := by decide
theorem test_HALT : after [0x76] { flat with ime := true, ie := 0x04, iflag := 0x00 } (fun t => (t.halted, t.pc)) = some (true, 0x0201) := by decide
theorem test_dispatch_after_HALT : after [] { flat with ime := true, halted := true, ie := 0x04, iflag := 0x04, pc := 0x0201 }
    (fun t => ((t.read 0xFFFD, t.read 0xFFFC, t.pc), t.iflag, t.ime, t.cost)) = some ((0x02, 0x01, 0x0050), 0x00, false, some 20) := by decide
theorem test_idle : after [] { flat with halted := true, iflag := 0x00 } (fun t => (t.halted, t.pc, t.cost)) = some (true, 0x0200, some 4) := by decide
theorem test_wake : after [] { flat with halted := true, ie := 0x01, iflag := 0x01 } (fun t => (t.halted, t.pc, t.iflag, t.cost)) = some (false, 0x0200, 0x01, some 0) := by decide
theorem test_STOP_fault : after [0x10, 0x00] { flat with pc := 0x0150 } (fun t => (t.pc, t.fault)) = some (0x0150, some .unmodelledStop) := by decide
theorem test_STOP_nop2 : after [0x10, 0x00] { flat with params := { flat.params with stopMode := .nop2 } } (fun t => (t.pc, t.fault, t.cost)) = some (0x0202, none, some 4) := by decide
theorem test_DI : after [0xF3] { flat with ime := true, ie := 0x00 } (fun t => (t.ime, t.eiDelay)) = some (false, 0) := by decide
theorem test_EI : after [0xFB] flat (fun t => (t.ime, t.eiDelay)) = some (false, 1) := by decide
theorem test_after_EI : after [0x00] { flat with eiDelay := 1 } (fun t => (t.ime, t.eiDelay)) = some (true, 0) := by decide
theorem test_illegal_D3 : after [0xD3] { flat with pc := 0x0400 } (fun t => (t.pc, t.fault)) = some (0x0400, some (.illegalOpcode 0xD3)) := by decide
theorem test_no_step_after_a_fault : after [0x00] { flat with fault := some (.illegalOpcode 0xD3) } (·.pc) = none := by decide

/-! The default bus: R220 to R223, R951. -/

theorem test_echo_is_open_bus : after [0xFA, 0x00, 0xE0] { console with mem := [(0xC000, 0x12)] } (·.a) = some 0xFF := by decide
theorem test_store_to_ROM : after [0x77] { console with h := 0x20, l := 0x00, a := 0x01 } (·.read 0x2000) = some 0x00 := by decide
theorem test_overlay_ends : after [0xE0, 0x50] { console with a := 0x01, overlay := true, bootRom := [(0, 0x31)], mem := [(0, 0xC3)] }
    (fun t => (t.overlay, t.read 0x0000)) = some (false, 0xC3) := by decide

/-! The parameter `BUS`: R10, R200, R207, R221, R232. -/

/-- The mirror that R221 leaves to a model that needs it. -/
theorem test_echo_mirrors_work_RAM : after [0xFA, 0x00, 0xE0] { console with params := { console.params with bus := .echo }, mem := [(0xC000, 0x12)] }
    (·.a) = some 0x12 := by decide

/-- The default `BUS` with a device at 0xFF10 whose register every read moves on. -/
def moving : State :=
  { console with
    params := { console.params with bus := { Bus.standard with regions := [{ first := 0xFF10, last := 0xFF10, serve := .scripted }] } }
    answers := [0x0F, 0x77] }

/-- INC (HL) reads the register once, then writes it; the next read answers otherwise. -/
theorem test_INC_HL_read_side_effect : after [0x34] { moving with h := 0xFF, l := 0x10 } (fun t => (t.f, t.answers, t.read 0xFF10)) = some (0x20, [0x77], 0x77) := by decide

/-- Every byte the CPU reads is an answer of the environment: three for the instruction, one for its operand. -/
theorem test_LD_A_a16_unknown_bus : after [] { console with params := { console.params with bus := .unknown }, answers := [0xFA, 0x00, 0xC4, 0x3C, 0x99] }
    (fun t => (t.a, t.pc, t.answers)) = some (0x3C, 0xD003, [0x99]) := by decide

/-! The façade: R956. -/

/-- What a run's end shows. -/
def ending (e : RunEnd) : Nat × Word :=
  match e with
  | .elapsed s => (0, s.pc)
  | .stopped s _ => (1, s.pc)
  | .refused s _ => (2, s.pc)
  | .unfinished s => (3, s.pc)

/-- Two NOPs of 4 T-states pass 5, a fault stops the run at its byte, and too few steps are told apart. -/
theorem test_runFor :
    ending (runFor 4 5 (flat.placeAll flat.pc [0x00, 0x00, 0xD3])) = (0, 0x0202) ∧
    ending (runFor 4 9 (flat.placeAll flat.pc [0x00, 0x00, 0xD3])) = (1, 0x0202) ∧
    ending (runFor 1 5 (flat.placeAll flat.pc [0x00, 0x00, 0xD3])) = (3, 0x0201) := by decide

/-- A machine whose LY, at 0xFF44, a device moves in the environment's second event. -/
def lines : State :=
  { console with
    mem := [(0xFF44, 0x8F)]
    params := { console.params with ioClaimed := [0xFF44] }
    env := [{ irq := 0x00, cells := [] }, { irq := 0x00, cells := [(0xFF44, 0x90)] }] }

theorem test_runScanline : ending (runScanline 0xFF44 3 lines) = (0, 0xD002) ∧ ending (runScanline 0xFF44 1 lines) = (3, 0xD001) := by decide

/-- R951's vector, one step of 16 T-states: TAC enables a period of 16, TIMA moves by exactly 1. -/
theorem test_timer_counts : after [0xC3, 0x00, 0xD0] { console with timer := { Timer.reset with tac := 0x05 } } (·.timer.tima) = some 0x01 := by decide

theorem test_timer_overflows : after [0xC3, 0x00, 0xD0] { console with iflag := 0x00, timer := { Timer.reset with tac := 0x05, tima := 0xFF, tma := 0x12 } }
    (fun t => (t.timer.tima, t.iflag)) = some (0x12, 0x04) := by decide

/-- The host's placement: the next step runs the placed word. -/
theorem test_withFetchWord : (match step (State.reset.withFetchWord 16 0xCB37) with | .next t => some (t.a, t.pc) | _ => none) = some (0x10, 0x0102) := by decide

/-- Whole-memory operations keep the canonical form: writing back what an unlisted address reads as removes the entry. -/
theorem test_memory_canonical : Memory.write [(0xC000, 0x12)] 0xC000 0x00 = [] ∧ Memory.write [(5, 0x01)] 3 0x02 = [(3, 0x02), (5, 0x01)] := by decide

/-! ### Witnesses: states and operands that meet the hypotheses of each statement, at the ends of their ranges -/

/-- A state the tests run an instruction from, the bytes placed at its PC. -/
def running (code : List Byte) : State := flat.placeAll flat.pc code

theorem test_witness_DecodeReadsBackEncode : (Instr.ldBN8 0xFF).wellFormed = true ∧ Instr.bit7H.wellFormed = true := by decide

theorem test_witness_OpcodeByteSelectsTheInstruction : (0x00 : Byte) ≠ 0xCB ∧ (0xFF : Byte) ≠ 0xCB := by decide

theorem test_witness_IllegalBytesRaiseIllegalOpcode :
    (0xD3 : Byte) ∈ Spec.illegalBytes ∧ (0xFD : Byte) ∈ Spec.illegalBytes ∧ flat.fault = none ∧
    ∃ t, exec (decodeBytes 0xFD 0x00 0x00) flat = .next t ∧ t.fault = some (.illegalOpcode 0xFD) := ⟨by decide, by decide, rfl, _, rfl, rfl⟩

theorem test_witness_StepRunsTheDecodedInstruction :
    Spec.executes (running [0x00]) ∧ decode (Spec.fetch 1 (running [0x00])).1 = .ok .nop [] ∧
    (∃ t, exec .nop (Spec.fetch 1 (running [0x00])).2 = .next t ∧ t.fault = none) :=
  ⟨⟨by decide, by decide, by decide⟩, by decide, _, rfl, rfl⟩

theorem test_witness_StepRunsTheDecodedInstruction_fault :
    Spec.executes (running [0xFD]) ∧ decode (Spec.fetch 1 (running [0xFD])).1 = .ok .illegalFD [] ∧
    (∃ t, exec .illegalFD (Spec.fetch 1 (running [0xFD])).2 = .next t ∧ t.fault ≠ none) :=
  ⟨⟨by decide, by decide, by decide⟩, by decide, _, rfl, by simp [State.raiseFault]⟩

theorem test_witness_FaultsStopTheMachine :
    { flat with fault := some .unmodelledStop : State }.fault = some .unmodelledStop ∧
    (after [0xED] flat fun t => t.fault) = some (some (.illegalOpcode 0xED)) ∧
    (after [0x10, 0x00] flat fun t => t.fault) = some (some .unmodelledStop) := by decide

/-- The lowest and the highest source, the latter with the CPU halted and every bit of no source set. -/
theorem test_witness_InterruptIsTaken :
    let s := { flat with ime := true, ie := 0xFF, iflag := 0x01 }
    let s' := { flat with ime := true, ie := 0xFF, iflag := 0xF0, halted := true }
    (s.fault = none ∧ s.ime = true ∧ Spec.pending s ≠ 0) ∧ s'.fault = none ∧ s'.ime = true ∧ Spec.pending s' ≠ 0 := by decide

theorem test_witness_HaltedWakesOrIdles :
    let s := { flat with ime := false, ie := 0x10, iflag := 0x10, halted := true }
    let s' := { flat with ime := true, ie := 0xE0, iflag := 0xE0, halted := true }
    (s.fault = none ∧ s.halted = true ∧ s.ime = false ∧ Spec.pending s ≠ 0) ∧
    s'.fault = none ∧ s'.halted = true ∧ Spec.pending s' = 0 := by decide

/-- `EI; NOP` and `EI; DI`: two steps each. -/
theorem test_witness_EiEnablesAfterTheNextInstruction :
    (Spec.executes (running [0xFB, 0x00]) ∧ (running [0xFB, 0x00]).ime = false ∧ (running [0xFB, 0x00]).eiDelay = 0 ∧
      (running [0xFB, 0x00]).read (running [0xFB, 0x00]).pc = 0xFB) ∧
    (after [0xFB, 0x00] flat fun t => (after [] t fun u => (t.read t.pc, u.fault, u.ime))) = some (some (0x00, none, true)) ∧
    (after [0xFB, 0xF3] flat fun t => (after [] t fun u => (t.read t.pc, u.fault, u.ime))) = some (some (0xF3, none, false)) :=
  ⟨⟨⟨by decide, by decide, by decide⟩, by decide, by decide, by decide⟩, by decide, by decide⟩

theorem test_witness_StepsCostWholeMachineCycles :
    (after [0xCD, 0x34, 0x12] flat fun t => (t.fault, t.cost)) = some (none, some 24) ∧
    (after [0xD3] flat fun t => (t.fault, t.cost)) = some (some (.illegalOpcode 0xD3), none) := by decide

theorem test_witness_StepKeepsTheInvariant :
    State.reset.Inv ∧ { State.reset with eiDelay := 1 : State }.Inv ∧ (after [0x00] State.reset fun t => t.pc) = some 0x0101 :=
  ⟨⟨by decide, by decide, by decide, by decide, by decide, by decide, by decide⟩,
    ⟨by decide, by decide, by decide, by decide, by decide, by decide, by decide⟩, by decide⟩

/-- An environment with the timer's phases at the ends of their ranges. -/
theorem test_witness_ResetMeetsTheInvariant :
    let v := { EnvReset.default with mem := [(0xC000, 0x01)], bootRom := [(255, 0x50)], timer := { Timer.reset with divPhase := 255, timaPhase := 15, tac := 0x05 } }
    (State.resetNoBoot v).memOk = true ∧ (State.resetNoBoot v).bootOk = true ∧ v.timer.divPhase < 256 ∧
      v.timer.timaPhase < Timer.period v.timer.tac := by decide

theorem test_witness_StepsKeepTheOverlayOffAndTheParameters :
    (after [0x00] { flat with env := [{ irq := 0x01, cells := [] }] } fun t => (t.fault, t.iflag, t.env)) = some (none, 0xE1, []) ∧
    (after [0xD3] { flat with env := [{ irq := 0x01, cells := [] }] } fun t => (t.fault.isSome, t.env.length)) = some (true, 1) ∧
    flat.overlay = false := by decide

theorem test_witness_frames : ∃ t, exec .nop flat = .next t := ⟨_, rfl⟩

theorem test_witness_OnlyStoredBytesChange :
    flat.memOk = true ∧ (∃ t, exec (.ldMemA16A 0xC000) flat = .next t) ∧ stores (.ldMemA16A 0xC000) flat = [0xC000] ∧
    storeTouches flat.params 0xC000 0xC001 = false ∧ owner flat.params 0xC001 ≠ .scripted ∧ loads (.ldMemA16A 0xC000) flat = [] ∧
    owner flat.params 0xC000 ≠ .dmaTrigger ∧ (∃ t, exec .cpB flat = .next t) ∧ stores .cpB flat = [] ∧ loads .cpB flat = [] :=
  ⟨by decide, ⟨_, rfl⟩, by decide, by decide, by decide, by decide, by decide, ⟨_, rfl⟩, by decide, by decide⟩

theorem test_witness_OnlyControlInstructionsChangeControlState :
    (∃ t, exec .nop flat = .next t) ∧ Instr.nop ≠ .di ∧ Instr.nop ≠ .reti ∧ Instr.nop ≠ .ei ∧ Instr.nop ≠ .halt ∧
    (∀ n, Instr.nop ≠ .stop n) ∧ (∀ op ∈ Spec.illegalBytes, encode .nop ≠ [op]) :=
  ⟨⟨_, rfl⟩, by simp, by simp, by simp, by simp, by simp, by decide⟩

theorem test_witness_StopResult :
    flat.params.stopMode = .fault ∧ { flat.params with stopMode := .nop2 : Params }.stopMode = .nop2 := by decide

theorem test_witness_DaaGivesPackedDecimal :
    { flat with a := 0x99, f := 0x10 : State }.a = Spec.bcd 99 ∧ { flat with a := 0x00 : State }.a = Spec.bcd 0 := by decide

/-- The last bytes of high RAM, and the first two of work RAM. -/
theorem test_witness_stack_in_plain_memory :
    console.memOk = true ∧
    (Spec.plain console.params (0xFFFF - 1) ∧ Spec.plain console.params (0xFFFF - 2) ∧
      resolve console.params (0xFFFF - 1) ≠ resolve console.params (0xFFFF - 2)) ∧
    Spec.plain console.params (0xC002 - 1) ∧ Spec.plain console.params (0xC002 - 2) ∧
      resolve console.params (0xC002 - 1) ≠ resolve console.params (0xC002 - 2) := by
  unfold Spec.plain; decide

/-- Both ends of the regions of plain memory, and an address a store there leaves alone. -/
theorem test_witness_ReadAfterWrite :
    console.memOk = true ∧
    (∀ x ∈ ([0x8000, 0x9FFF, 0xA000, 0xBFFF, 0xC000, 0xDFFF, 0xFE00, 0xFE9F, 0xFF80, 0xFFFE] : List Word), Spec.plain console.params x) ∧
    resolve console.params 0xC001 ≠ resolve console.params 0xC000 ∧ storeTouches console.params 0xC000 0xC001 = false := by
  refine ⟨by decide, ?_, by decide, by decide⟩
  intro x hx
  unfold Spec.plain
  fin_cases hx <;> decide

theorem test_witness_EqualMemoriesAreEqualData : Memory.wf [(0, 0x01), (65535, 0xFF)] = true ∧ Memory.wf [] = true := by decide

/-- Both ends of the three ranges. -/
theorem test_witness_OpenBusReadsFf :
    console.params.bus = .standard ∧
    (∀ x ∈ ([0xE000, 0xFDFF, 0xFEA0, 0xFEFF, 0xFF00, 0xFF03, 0xFF7F] : List Word),
      (0xE000 ≤ x ∧ x < 0xFE00) ∨ (0xFEA0 ≤ x ∧ x < 0xFF00) ∨
      (0xFF00 ≤ x ∧ x < 0xFF80 ∧ x ∉ console.params.ioClaimed ∧
        x ∉ ([0xFF04, 0xFF05, 0xFF06, 0xFF07, 0xFF0F, 0xFF46, 0xFF50] : List Word))) := by
  refine ⟨by decide, ?_⟩
  intro x hx
  fin_cases hx <;> decide

theorem test_witness_RomStoresChangeNothing : console.params.bus = .standard ∧ (0x0000 : Word) < 0x8000 ∧ (0x7FFF : Word) < 0x8000 := by decide

/-- The first and the last byte, the byte taken from the trigger, and the addresses beside OAM. -/
theorem test_witness_OamDmaCopies160Bytes :
    console.memOk = true ∧ console.params.bus = .standard ∧ 0 < 160 ∧ 159 < 160 ∧ (0xFF : Byte) = 0xFF ∧ 0x46 < 160 ∧
    (∀ k ∈ ([0xFDFF, 0xFEA0, 0xFF45, 0xFF47] : List Word), ¬ (0xFE00 ≤ k ∧ k < 0xFEA0) ∧ k ≠ 0xFF46) := by
  refine ⟨by decide, by decide, by decide, by decide, rfl, by decide, ?_⟩
  intro k hk
  fin_cases hk <;> decide

theorem test_witness_BootOverlayServesTheImage :
    let s := { console with overlay := true, bootRom := [(0, 0x31), (255, 0x50)] }
    s.memOk = true ∧ s.params.bus = .standard ∧ s.overlay = true ∧ (0x0000 : Word) < 0x0100 ∧ (0x00FF : Word) < 0x0100 ∧
    (0x0100 : Word) ≤ 0x0100 ∧ (0x7FFF : Word) < 0x8000 := by decide

/-- The clauses about a step's cost, at their ends: disabled; one T-state short of a count; the last count before an overflow;
the overflow; the last count before a second one. -/
theorem test_witness_TimerCountsAndReloads :
    let t (tac tima tma : Byte) (p : Nat) : State := { console with cost := some 20, timer := { Timer.reset with tac := tac, tima := tima, tma := tma, timaPhase := p } }
    ((t 0x01 0x00 0x00 0).params.bus = .standard ∧ (t 0x01 0x00 0x00 0).cost = some 20 ∧ (t 0x01 0x00 0x00 0).timer.tac.getLsbD 2 = false) ∧
    (0 = (1003 + 20) / Timer.period 0x04 ∧ (t 0x04 0xFF 0x00 1003).timer.tac.getLsbD 2 = true ∧ (t 0x04 0xFF 0x00 1003).timer.tima.toNat + 0 < 256) ∧
    (2 = (12 + 20) / Timer.period 0x05 ∧ (t 0x05 0xFD 0x00 12).timer.tima.toNat + 2 < 256) ∧
    (256 ≤ (t 0x05 0xFE 0xFF 12).timer.tima.toNat + 2 ∧
      (t 0x05 0xFE 0xFF 12).timer.tma.toNat + ((t 0x05 0xFE 0xFF 12).timer.tima.toNat + 2 - 256) < 256) := by decide

/-- Both ends of the mirror. -/
theorem test_witness_AnyBusCanBeGiven_mirror :
    { console.params with bus := .echo : Params }.bus = .echo ∧
    (0xE000 : Word) ≤ 0xE000 ∧ (0xE000 : Word) < 0xFE00 ∧ (0xE000 : Word) ≤ 0xFDFF ∧ (0xFDFF : Word) < 0xFE00 := by decide

/-- Four accesses, to the addresses beside the two latches among them. -/
def accesses : List Spec.Access := [.read 0x0000, .read 0xFFFE, .write 0xFF0E 0x50, .read 0xFF10]

/-- A `BUS` whose state is the byte it answers next: every read moves it, every write sets it. -/
theorem test_witness_AnyBusCanBeGiven :
    let s := { console with params := { console.params with bus := .unknown }, answers := [0x07, 0x08, 0x50, 0x99] }
    s.params.bus = .unknown ∧ s.answers = Spec.busReads (fun b _ => (b, b + 1)) (fun _ _ v => v) (0x07 : Byte) accesses ++ [0x99] ∧
      ∀ a ∈ accesses, a.addr ≠ 0xFFFF ∧ a.addr ≠ 0xFF0F := by
  refine ⟨rfl, rfl, ?_⟩
  intro a ha
  fin_cases ha <;> decide

theorem test_witness_ResetProfiles : EnvReset.default.params.bus = .standard := by decide

end Sys2Proof.Tests
end

section
/-! SUPPORT. Proofs about `BUS` as a parameter (spec/00_scope.md R10, spec/20_memory.md R200, R221): an access is settled by the location
its address names; the mirror of work RAM names work RAM; and a machine behind an unknown bus replays the answers it is given. -/

namespace Sys2Proof.Machine

/-! ### An access depends on its address by the location it names -/

theorem owner_congr {p : Params} {x y : Word} (h : resolve p x = resolve p y) : owner p x = owner p y := by
  rw [owner, owner, h]

theorem State.read_congr {s : State} {x y : Word} (h : resolve s.params x = resolve s.params y) : s.read x = s.read y := by
  rw [State.read, State.read, h]

theorem State.afterRead_congr {s : State} {x y : Word} (h : resolve s.params x = resolve s.params y) :
    s.afterRead x = s.afterRead y := by
  rw [State.afterRead, State.afterRead, owner_congr h]

theorem State.store_congr {s : State} {x y : Word} (h : resolve s.params x = resolve s.params y) (v : Byte) :
    s.store x v = s.store y v := by
  rw [State.store, State.store, h]

theorem State.write_congr {s : State} {x y : Word} (h : resolve s.params x = resolve s.params y) (v : Byte) :
    s.write x v = s.write y v := by
  rw [State.write, State.write, owner_congr h, State.store_congr h]

/-! ### The mirror of work RAM (R221) -/

/-- An address of the mirror names the one 0x2000 below it. -/
theorem resolve_echo_mirror {p : Params} (h : p.bus = .echo) {x : Word} (hlo : 0xE000 ≤ x) (hhi : x < 0xFE00) :
    resolve p x = x - 0x2000 := by
  have hlatch : ¬ (x = 0xFFFF ∨ x = 0xFF0F) := by bv_omega
  have hcov : covers 0xE000 0xFDFF x = true := by
    rw [covers, Bool.and_eq_true, decide_eq_true_iff, decide_eq_true_iff]
    exact ⟨hlo, by bv_omega⟩
  rw [resolve, if_neg hlatch, h]
  simp only [Bus.echo, List.find?_cons, hcov]
  bv_omega

/-- Below the mirror every address names itself. -/
theorem resolve_echo_below {p : Params} (h : p.bus = .echo) {x : Word} (hlt : x < 0xE000) : resolve p x = x := by
  have hlatch : ¬ (x = 0xFFFF ∨ x = 0xFF0F) := by bv_omega
  have hcov : covers 0xE000 0xFDFF x = false := by
    rw [covers, decide_eq_false (BitVec.not_le.mpr hlt), Bool.false_and]
  rw [resolve, if_neg hlatch, h]
  simp only [Bus.echo, Bus.standard, List.find?_cons, hcov, List.find?_nil]

/-- An address of the mirror names the location that the work RAM address 0x2000 below it names. -/
theorem resolve_echo_eq_workRam {p : Params} (h : p.bus = .echo) {x : Word} (hlo : 0xE000 ≤ x) (hhi : x < 0xFE00) :
    resolve p x = resolve p (x - 0x2000) := by
  rw [resolve_echo_mirror h hlo hhi, resolve_echo_below h (by bv_omega)]

/-! ### A bus of which nothing is fixed (R200, R207) -/

/-- Behind the unknown bus the environment answers at every address but those of the two latches. -/
theorem owner_unknown {p : Params} (h : p.bus = .unknown) {x : Word} (hie : x ≠ 0xFFFF) (hif : x ≠ 0xFF0F) :
    owner p x = .scripted := by
  have hres : resolve p x = x := by simp [resolve, h, Bus.unknown]
  have hcov : covers 0x0000 0xFFFF x = true := by
    rw [covers, Bool.and_eq_true, decide_eq_true_iff, decide_eq_true_iff]
    constructor <;> bv_omega
  rw [owner, hres, ownerAt, if_neg hie, if_neg hif, h]
  simp only [Bus.unknown, List.find?_cons, hcov, serveOwner]

/-- A read of a scripted address gives the first of the answers laid down. -/
theorem State.read_scripted {s : State} {x : Word} (h : owner s.params x = .scripted) {v : Byte} {rest : List Byte}
    (hs : s.answers = v :: rest) : s.read x = v := by
  unfold owner at h
  simp only [State.read, h, hs, List.headD_cons]

/-- A read of a scripted address takes the first of the answers laid down. -/
theorem State.afterRead_scripted {s : State} {x : Word} (h : owner s.params x = .scripted) {v : Byte} {rest : List Byte}
    (hs : s.answers = v :: rest) : s.afterRead x = { s with answers := rest } := by
  simp only [State.afterRead, h, hs]

/-- A write to a scripted address leaves the machine's state as it is. -/
theorem State.write_scripted {s : State} {x : Word} (h : owner s.params x = .scripted) (v : Byte) : s.write x v = s := by
  have hne : owner s.params x ≠ .dmaTrigger := by rw [h]; exact nofun
  rw [State.write_eq_store hne]
  unfold owner at h
  simp only [State.store, h]

/-- Over scripted addresses the machine gives the answers of the bus whose answers it was given, and uses up just them. -/
theorem cpuReads_scripted {β : Type} (rd : β → Word → Byte × β) (wr : β → Word → Byte → β) (b : β) (accesses : List Spec.Access)
    (rest : List Byte) (s : State) (hs : s.answers = Spec.busReads rd wr b accesses ++ rest)
    (ho : ∀ a ∈ accesses, owner s.params a.addr = .scripted) :
    Spec.cpuReads s accesses = (Spec.busReads rd wr b accesses, { s with answers := rest }) := by
  induction accesses generalizing b s with
  | nil =>
    have hrest : s.answers = rest := hs
    rw [Spec.cpuReads, Spec.busReads, ← hrest]
  | cons a accesses ih =>
    obtain ⟨ha, hmore⟩ := List.forall_mem_cons.mp ho
    cases a with
    | read x =>
      have hx : owner s.params x = .scripted := ha
      have hs' : s.answers = (rd b x).1 :: (Spec.busReads rd wr (rd b x).2 accesses ++ rest) := hs
      rw [Spec.cpuReads, Spec.busReads, State.read_scripted hx hs', State.afterRead_scripted hx hs',
        ih (rd b x).2 { s with answers := Spec.busReads rd wr (rd b x).2 accesses ++ rest } rfl hmore]
    | write x v =>
      have hx : owner s.params x = .scripted := ha
      rw [Spec.cpuReads, Spec.busReads, State.write_scripted hx v]
      exact ih (wr b x v) s hs hmore

/-! ### The statement -/

/-- Settles O56: the mirror by the location an access names, any bus by induction on the accesses. -/
theorem anyBusCanBeGiven : Obligations.AnyBusCanBeGiven := by
  unfold Obligations.AnyBusCanBeGiven
  constructor
  · intro s x v hbus hlo hhi
    have hres : resolve s.params x = resolve s.params (x - 0x2000) := resolve_echo_eq_workRam hbus hlo hhi
    exact ⟨State.read_congr hres, State.afterRead_congr hres, State.write_congr hres v⟩
  · intro β rd wr b accesses rest s hbus hs haddr
    have hscripted : ∀ a ∈ accesses, owner s.params a.addr = .scripted := fun a ha =>
      owner_unknown hbus (haddr a ha).1 (haddr a ha).2
    exact cpuReads_scripted rd wr b accesses rest s hs hscripted

end Sys2Proof.Machine
end

section
/-! SUPPORT. What an instruction can do to the state, said once (spec/10_state.md, spec/20_memory.md): every instruction but six kinds is
made of seven operations on data, and those six are named with the state they answer. -/

namespace Sys2Proof.Machine

/-! ### The operations on data -/

/-- `t` is reached from `s` by reads and stores on the bus and writes of registers, F, SP, PC and the cost alone. -/
inductive State.DataReach (s : State) : State → Prop where
  | refl : s.DataReach s
  | read {t : State} {x : Word} : s.DataReach t → s.DataReach (t.afterRead x)
  | write {t : State} {x : Word} {v : Byte} : s.DataReach t → s.DataReach (t.write x v)
  | setReg {t : State} {r : Reg8} {v : Byte} : s.DataReach t → s.DataReach (t.setReg r v)
  | setF {t : State} {v : Byte} : s.DataReach t → s.DataReach (t.setF v)
  | setSp {t : State} {w : Word} : s.DataReach t → s.DataReach (t.setSp w)
  | setPc {t : State} {w : Word} : s.DataReach t → s.DataReach (t.setPc w)
  | charge {t : State} {n : Nat} : s.DataReach t → s.DataReach (t.charge n)

namespace State.DataReach

variable {s t : State} {w : Word}

theorem setFlags {fl : Flags} (h : s.DataReach t) : s.DataReach (t.setFlags fl) := h.setF

theorem setAFlags {r : Byte × Flags} (h : s.DataReach t) : s.DataReach (t.setAFlags r) := h.setFlags.setReg (r := .a) (v := r.1)

theorem setHl (h : s.DataReach t) : s.DataReach (t.setHl w) := (h.setReg (r := .h) (v := w.hi)).setReg (r := .l) (v := w.lo)

theorem setPairSp (h : s.DataReach t) (p : PairSp) : s.DataReach (t.setPairSp p w) := by
  cases p with
  | bc => exact (h.setReg (r := .b) (v := w.hi)).setReg (r := .c) (v := w.lo)
  | de => exact (h.setReg (r := .d) (v := w.hi)).setReg (r := .e) (v := w.lo)
  | hl => exact h.setHl
  | sp => exact h.setSp

theorem setPairAf (h : s.DataReach t) (p : PairAf) : s.DataReach (t.setPairAf p w) := by
  cases p with
  | bc => exact (h.setReg (r := .b) (v := w.hi)).setReg (r := .c) (v := w.lo)
  | de => exact (h.setReg (r := .d) (v := w.hi)).setReg (r := .e) (v := w.lo)
  | hl => exact h.setHl
  | af => exact h.setF.setReg (r := .a)

theorem write16 {x : Word} (h : s.DataReach t) : s.DataReach (t.write16 x w) := h.write.write

theorem push16 (h : s.DataReach t) : s.DataReach (t.push16 w) := h.setSp.write.setSp.write

theorem popped (h : s.DataReach t) : s.DataReach t.popped := h.read.read.setSp

theorem call (h : s.DataReach t) : s.DataReach (t.call w) := h.push16.setPc

theorem ret (h : s.DataReach t) : s.DataReach t.ret := h.popped.setPc

/-- The operations on data leave the control state (R110 to R113). -/
theorem control (h : s.DataReach t) : t.ime = s.ime ∧ t.eiDelay = s.eiDelay ∧ t.halted = s.halted ∧ t.fault = s.fault := by
  induction h with
  | refl => exact ⟨rfl, rfl, rfl, rfl⟩
  | setReg _ ih | read _ ih | write _ ih | setF _ ih | setSp _ ih | setPc _ ih | charge _ ih => simpa using ih

/-- The operations on data leave the parameters, the boot image and the environment (R10, R222). -/
theorem config (h : s.DataReach t) : t.params = s.params ∧ t.bootRom = s.bootRom ∧ t.env = s.env := by
  induction h with
  | refl => exact ⟨rfl, rfl, rfl⟩
  | setReg _ ih | read _ ih | write _ ih | setF _ ih | setSp _ ih | setPc _ ih | charge _ ih => simpa using ih

end State.DataReach

/-! ### The shape of a row, 0xCB resolved -/

/-- The shape of the row a byte after 0xCB selects (R802, R312). -/
def cbShape (op : Byte) : Shape :=
  match opX op, Reg8.ofCode (opZ op) with
  | 0, some r => .rotReg (RotOp.ofCode (opY op)) r
  | 0, none   => .rotMem (RotOp.ofCode (opY op))
  | 1, some r => .bitReg (opY op) r
  | 1, none   => .bitMem (opY op)
  | 2, some r => .resReg (opY op) r
  | 2, none   => .resMem (opY op)
  | 3, some r => .setReg (opY op) r
  | 3, none   => .setMem (opY op)

/-- The shape of a row; the row of 0xCB has the shape of the row its second byte selects. -/
def instrShape (i : Instr) : Shape :=
  match shape i with
  | .cb op => cbShape op
  | h => h

theorem runCb_eq_cbShape (op : Byte) (s : State) : runCb op s = (cbShape op).run s := by
  unfold runCb cbShape
  generalize opX op = x, Reg8.ofCode (opZ op) = r
  fin_cases x <;> cases r <;> rfl

theorem exec_eq_instrShape (i : Instr) (s : State) : exec i s = (instrShape i).run s := by
  rw [exec_eq_shape, instrShape]
  split
  · next op hop => rw [hop]; exact runCb_eq_cbShape op s
  · rfl

/-- What a shape says of an instruction `i` that has it: one that writes control state names `i`, and `.cb` is resolved away. -/
def Shape.Names (i : Instr) : Shape → Prop
  | .di => i = .di
  | .ei => i = .ei
  | .reti => i = .reti
  | .halt => i = .halt
  | .stop => ∃ n, i = .stop n
  | .illegal op => op ∈ Spec.illegalBytes ∧ encode i = [op]
  | .cb _ => False
  | _ => True

theorem cbShape_names (i : Instr) (op : Byte) : (cbShape op).Names i := by
  unfold cbShape
  split <;> trivial

theorem instrShape_names (i : Instr) : (instrShape i).Names i := by
  cases i with
  | prefixCb op => exact cbShape_names _ op
  | stop n => exact ⟨n, rfl⟩
  | di | ei | reti | halt => rfl
  | illegalD3 | illegalDB | illegalDD | illegalE3 | illegalE4 | illegalEB | illegalEC | illegalED | illegalF4 | illegalFC
    | illegalFD => exact ⟨by decide, rfl⟩
  | _ => exact True.intro

/-! ### What an instruction answers -/

/-- What an instruction can answer from `s`: a state that operations on data reach, or the state of a row that writes control state. -/
inductive ExecCase (s : State) : Instr → State → Prop where
  | data {i : Instr} {t : State} : s.DataReach t → ExecCase s i t
  | di : ExecCase s .di ({ s with ime := false, eiDelay := 0 }.charge 4)
  | ei : ExecCase s .ei ({ s with eiDelay := if s.ime = false ∧ s.eiDelay = 0 then 2 else s.eiDelay }.charge 4)
  | reti : ExecCase s .reti (s.returnFromInterrupt.charge 16)
  | halt : ExecCase s .halt ({ s with halted := true }.charge 4)
  | stop (n : Byte) : ExecCase s (.stop n) (s.raiseFault .unmodelledStop 2)
  | illegal {i : Instr} {op : Byte} : op ∈ Spec.illegalBytes → encode i = [op] →
      ExecCase s i (s.raiseFault (.illegalOpcode op) 1)

theorem jumpIf_answers (cc : Cond) (x : Word) (m n : Nat) (s : State) : ∃ t, jumpIf cc x m n s = .next t ∧ s.DataReach t := by
  unfold jumpIf
  split
  · exact ⟨_, rfl, .charge (.setPc .refl)⟩
  · exact ⟨_, rfl, .charge .refl⟩

theorem callIf_answers (cc : Cond) (x : Word) (s : State) : ∃ t, callIf cc x s = .next t ∧ s.DataReach t := by
  unfold callIf
  split
  · exact ⟨_, rfl, .charge (.call .refl)⟩
  · exact ⟨_, rfl, .charge .refl⟩

theorem returnIf_answers (cc : Cond) (s : State) : ∃ t, returnIf cc s = .next t ∧ s.DataReach t := by
  unfold returnIf
  split
  · exact ⟨_, rfl, .charge (.ret .refl)⟩
  · exact ⟨_, rfl, .charge .refl⟩

/-- STOP goes on as NOP does, or raises its fault, by STOP_MODE (R803). -/
theorem execStop_answers (n : Byte) (s : State) : ∃ t, execStop 0 s = .next t ∧ ExecCase s (.stop n) t := by
  unfold execStop
  split
  · exact ⟨_, rfl, .stop n⟩
  · exact ⟨_, rfl, .data (.charge .refl)⟩

/-- Every shape answers a next state, and which. -/
theorem Shape.run_answers {i : Instr} {h : Shape} (hn : h.Names i) (s : State) : ∃ t, h.run s = .next t ∧ ExecCase s i t := by
  have data : (∃ t, h.run s = .next t ∧ s.DataReach t) → ∃ t, h.run s = .next t ∧ ExecCase s i t :=
    fun ⟨t, ht, hd⟩ => ⟨t, ht, .data hd⟩
  cases h with
  | cb op => exact hn.elim
  | di => cases hn; exact ⟨_, rfl, .di⟩
  | ei => cases hn; exact ⟨_, rfl, .ei⟩
  | reti => cases hn; exact ⟨_, rfl, .reti⟩
  | halt => cases hn; exact ⟨_, rfl, .halt⟩
  | stop => obtain ⟨n, rfl⟩ := hn; exact execStop_answers n s
  | illegal op => exact ⟨_, rfl, .illegal hn.1 hn.2⟩
  | jpIf cc x => exact data (jumpIf_answers ..)
  | jrIf cc e => exact data (jumpIf_answers ..)
  | callIf cc x => exact data (callIf_answers ..)
  | retIf cc => exact data (returnIf_answers ..)
  | nop => exact data ⟨_, rfl, .charge .refl⟩
  | jp x | jpHl | jr e => exact data ⟨_, rfl, .charge (.setPc .refl)⟩
  | call x | rst x => exact data ⟨_, rfl, .charge (.call .refl)⟩
  | ret => exact data ⟨_, rfl, .charge (.ret .refl)⟩
  | loadReg dst src | loadImm dst n | resReg b r | setReg b r => exact data ⟨_, rfl, .charge (.setReg .refl)⟩
  | loadMem dst | loadA x n => exact data ⟨_, rfl, .charge (.setReg (.read .refl))⟩
  | storeReg src | storeImm n | storeA x n => exact data ⟨_, rfl, .charge (.write .refl)⟩
  | storeAHl d => exact data ⟨_, rfl, .charge (.setHl (.write .refl))⟩
  | loadAHl d => exact data ⟨_, rfl, .charge (.setHl (.setReg (.read .refl)))⟩
  | loadPair p n | incPair p | decPair p => exact data ⟨_, rfl, .charge (.setPairSp .refl p)⟩
  | storeSp x => exact data ⟨_, rfl, .charge (.write16 .refl)⟩
  | spHl => exact data ⟨_, rfl, .charge (.setSp .refl)⟩
  | push p => exact data ⟨_, rfl, .charge (.push16 .refl)⟩
  | pop p => exact data ⟨_, rfl, .charge (.setPairAf (.popped .refl) p)⟩
  | hlSp e | addHl p => exact data ⟨_, rfl, .charge (.setFlags (.setHl .refl))⟩
  | addSp e => exact data ⟨_, rfl, .charge (.setFlags (.setSp .refl))⟩
  | aluReg op r | aluImm op n | daa | cpl | rotA op => exact data ⟨_, rfl, .charge (.setAFlags .refl)⟩
  | aluMem op => exact data ⟨_, rfl, .charge (.setAFlags (.read .refl))⟩
  | incReg r | decReg r | rotReg op r => exact data ⟨_, rfl, .charge (.setFlags (.setReg .refl))⟩
  | incMem | decMem | rotMem op => exact data ⟨_, rfl, .charge (.setFlags (.write (.read .refl)))⟩
  | scf | ccf | bitReg b r => exact data ⟨_, rfl, .charge (.setFlags .refl)⟩
  | bitMem b => exact data ⟨_, rfl, .charge (.setFlags (.read .refl))⟩
  | resMem b | setMem b => exact data ⟨_, rfl, .charge (.write (.read .refl))⟩

/-- Every instruction answers a next state, and which. -/
theorem exec_answers (i : Instr) (s : State) : ∃ t, exec i s = .next t ∧ ExecCase s i t := by
  rw [exec_eq_instrShape]
  exact Shape.run_answers (instrShape_names i) s

theorem exec_cases {i : Instr} {s t : State} (h : exec i s = .next t) : ExecCase s i t := by
  obtain ⟨u, hu, hcase⟩ := exec_answers i s
  rw [h] at hu
  cases hu
  exact hcase

end Sys2Proof.Machine
end

section
/-! SUPPORT. The invariant of the machine is kept by every step (spec/10_state.md §4, spec/60_exceptions.md R905, R907): an instruction
keeps all of it but the bound of `ei_delay`, which the bookkeeping restores. -/

namespace Sys2Proof.Machine

/-! ### The invariant inside a step -/

/-- The invariant but for the bound of `ei_delay`: what holds between an instruction and the bookkeeping after it. -/
structure State.MidInv (s : State) : Prop where
  memOk : s.memOk = true
  bootOk : s.bootOk = true
  lowNibble : s.f &&& 0x0F = 0
  eiPending : s.eiDelay = 0 ∨ s.ime = false
  phasesOk : s.timer.PhasesOk

theorem State.inv_iff_midInv {s : State} : s.Inv ↔ s.MidInv ∧ s.eiDelay ≠ 2 :=
  ⟨fun h => ⟨⟨h.memOk, h.bootOk, h.lowNibble, h.eiPending, h.divPhase, h.timaPhase⟩, h.eiDelay⟩,
    fun ⟨h, hd⟩ => ⟨h.memOk, h.bootOk, h.lowNibble, hd, h.eiPending, h.phasesOk.1, h.phasesOk.2⟩⟩

theorem State.bootOk_congr {s t : State} (h : t.bootRom = s.bootRom) : t.bootOk = s.bootOk := by
  rw [State.bootOk, State.bootOk, h]

theorem State.memOk_congr {s t : State} (hm : t.mem = s.mem) (hp : t.params = s.params) : t.memOk = s.memOk := by
  rw [State.memOk, State.memOk, hm, hp]

/-- What is stored in F has a zero low nibble (R105). -/
theorem mask_low (v : Byte) : (v &&& 0xF0) &&& 0x0F = 0 := by
  rw [BitVec.and_assoc]
  exact BitVec.and_zero

/-! ### Instructions -/

theorem State.DataReach.midInv {s t : State} (h : s.DataReach t) (hs : s.MidInv) : t.MidInv := by
  induction h with
  | refl => exact hs
  | @read t x _ ih =>
    exact ⟨State.afterRead_memOk ih.memOk x, by simpa [State.bootOk] using ih.bootOk, by simpa using ih.lowNibble,
      by simpa using ih.eiPending, by simpa using ih.phasesOk⟩
  | @write t x v _ ih =>
    exact ⟨State.write_memOk ih.memOk x v, by simpa [State.bootOk] using ih.bootOk, by simpa using ih.lowNibble,
      by simpa using ih.eiPending, State.write_phasesOk ih.phasesOk x v⟩
  | setReg _ ih =>
    exact ⟨by simpa [State.memOk] using ih.memOk, by simpa [State.bootOk] using ih.bootOk, by simpa using ih.lowNibble,
      by simpa using ih.eiPending, by simpa using ih.phasesOk⟩
  | setF _ ih => exact ⟨ih.memOk, ih.bootOk, mask_low _, ih.eiPending, ih.phasesOk⟩
  | setSp _ ih | setPc _ ih | charge _ ih => exact ⟨ih.memOk, ih.bootOk, ih.lowNibble, ih.eiPending, ih.phasesOk⟩

theorem State.returnFromInterrupt_eq (s : State) : s.returnFromInterrupt = { s.ret with ime := true, eiDelay := 0 } := rfl

theorem State.MidInv.enable {s : State} (h : s.MidInv) : { s with ime := true, eiDelay := 0 : State }.MidInv :=
  ⟨h.memOk, h.bootOk, h.lowNibble, .inl rfl, h.phasesOk⟩

theorem ExecCase.midInv {i : Instr} {s t : State} (h : ExecCase s i t) (hs : s.MidInv) : t.MidInv := by
  cases h with
  | data hd => exact hd.midInv hs
  | di => exact ⟨hs.memOk, hs.bootOk, hs.lowNibble, .inl rfl, hs.phasesOk⟩
  | ei =>
    refine ⟨hs.memOk, hs.bootOk, hs.lowNibble, ?_, hs.phasesOk⟩
    rcases hs.eiPending with h0 | hime
    · by_cases hime : s.ime = false
      · exact .inr hime
      · exact .inl (by simp [hime, h0])
    · exact .inr hime
  | reti =>
    have hret : s.ret.MidInv := (State.DataReach.ret .refl).midInv hs
    rw [State.returnFromInterrupt_eq]
    exact (State.DataReach.charge .refl).midInv hret.enable
  | halt | stop | illegal => exact ⟨hs.memOk, hs.bootOk, hs.lowNibble, hs.eiPending, hs.phasesOk⟩

/-- An instruction that raises a fault leaves `ei_delay` (R940). -/
theorem ExecCase.eiDelay_of_fault {i : Instr} {s t : State} (h : ExecCase s i t) (hs : s.fault = none) (ht : t.fault ≠ none) :
    t.eiDelay = s.eiDelay := by
  cases h with
  | data hd => exact hd.control.2.1
  | halt | stop | illegal => rfl
  | di | ei => exact absurd hs ht
  | reti => exact absurd (by simpa [State.returnFromInterrupt] using hs) ht

/-! ### The rest of the step -/

/-- The fetch keeps what every read keeps. -/
theorem State.DataReach.pastFetch (s : State) : s.DataReach s.pastFetch :=
  State.fetchBytes_induct (P := s.DataReach) (fun _ _ h => h.read) (fun _ _ h => h.setPc) _ .refl

/-- The bookkeeping brings `ei_delay` below 2, and sets IME only where it clears `ei_delay` (R905). -/
theorem State.MidInv.bookkeeping {s : State} (h : s.MidInv) : s.bookkeeping.Inv := by
  have hmem : s.bookkeeping.memOk = true := (State.memOk_congr (by simp) (by simp)).trans h.memOk
  have hboot : s.bookkeeping.bootOk = true := (State.bootOk_congr (by simp)).trans h.bootOk
  have hlow : s.bookkeeping.f &&& 0x0F = 0 := by simpa using h.lowNibble
  have hphases : s.bookkeeping.timer.PhasesOk := by simpa using h.phasesOk
  refine State.inv_iff_midInv.mpr ⟨⟨hmem, hboot, hlow, ?_, hphases⟩, ?_⟩
  · rw [State.bookkeeping_eiDelay, State.bookkeeping_ime]
    by_cases h2 : s.eiDelay = 2
    · have hime : s.ime = false := h.eiPending.resolve_left (by simp [h2])
      simp [h2, hime]
    · exact .inl (if_neg h2)
  · rw [State.bookkeeping_eiDelay]
    split <;> decide

/-- The devices' turn keeps the invariant, whatever the environment does (R907). -/
theorem State.Inv.elapse {s : State} (h : s.Inv) : s.elapse.Inv := by
  obtain ⟨hdiv, htima⟩ := State.elapse_phasesOk ⟨h.divPhase, h.timaPhase⟩
  exact ⟨State.elapse_memOk h.memOk, (State.bootOk_congr (by simp)).trans h.bootOk, by simpa using h.lowNibble,
    by simpa using h.eiDelay, by simpa using h.eiPending, hdiv, htima⟩

/-- What taking an interrupt clears before the push (R912). -/
def State.acknowledge (s : State) : State :=
  { s with iflag := s.iflag &&& ~~~((1 : Byte) <<< lowestSource s.pending), ime := false, eiDelay := 0, halted := false }

/-- After it, taking an interrupt is a push and a write of PC. -/
theorem State.DataReach.dispatch (s : State) : s.acknowledge.DataReach s.dispatch :=
  .charge (.setPc (.push16 (w := s.pc) .refl))

theorem State.Inv.dispatch {s : State} (h : s.Inv) : s.dispatch.Inv := by
  have hack : s.acknowledge.MidInv := ⟨h.memOk, h.bootOk, h.lowNibble, .inl rfl, h.divPhase, h.timaPhase⟩
  have hdelay : s.dispatch.eiDelay = 0 := (State.DataReach.dispatch s).control.2.1
  exact State.inv_iff_midInv.mpr ⟨(State.DataReach.dispatch s).midInv hack, by simp [hdelay]⟩

theorem State.Inv.wake {s : State} (h : s.Inv) : s.wake.Inv :=
  ⟨h.memOk, h.bootOk, h.lowNibble, h.eiDelay, h.eiPending, h.divPhase, h.timaPhase⟩

theorem State.Inv.idle {s : State} (h : s.Inv) : s.idle.Inv :=
  ⟨h.memOk, h.bootOk, h.lowNibble, h.eiDelay, h.eiPending, h.divPhase, h.timaPhase⟩

/-- Settles O13, by the cases of a step: each keeps the invariant up to the bookkeeping, and the devices' turn keeps it. -/
theorem stepKeepsTheInvariant : Obligations.StepKeepsTheInvariant := by
  unfold Obligations.StepKeepsTheInvariant
  intro s t hs hstep
  obtain ⟨hfault, ⟨_, _, rfl⟩ | ⟨_, _, _, rfl⟩ | ⟨_, _, rfl⟩ | ⟨_, _, u, hexec, hu⟩⟩ := step_cases hstep
  · exact hs.dispatch.elapse
  · exact hs.wake.elapse
  · exact hs.idle.elapse
  · have hfetch : s.pastFetch.MidInv := (State.DataReach.pastFetch s).midInv (State.inv_iff_midInv.mp hs).1
    have hmid : u.MidInv := (exec_cases hexec).midInv hfetch
    obtain ⟨hraised, rfl⟩ | ⟨_, rfl⟩ := hu
    · have hdelay : t.eiDelay = s.pastFetch.eiDelay := (exec_cases hexec).eiDelay_of_fault (by simpa using hfault) hraised
      exact State.inv_iff_midInv.mpr ⟨hmid, by simpa [hdelay] using hs.eiDelay⟩
    · exact hmid.bookkeeping.elapse

end Sys2Proof.Machine
end

section
/-! SUPPORT. The frames of an instruction on the control state and on the flags (spec/10_state.md §3, §4). -/

namespace Sys2Proof.Machine

/-! ### Control state (R110 to R113) -/

/-- Settles O20, by what an instruction can answer: operations on data write none of it, and each of the other rows is named. -/
theorem onlyControlInstructionsChangeControlState : Obligations.OnlyControlInstructionsChangeControlState := by
  unfold Obligations.OnlyControlInstructionsChangeControlState
  intro i s t hexec
  cases exec_cases hexec with
  | data hd =>
    obtain ⟨hime, hdelay, hhalted, hfault⟩ := hd.control
    exact ⟨fun _ _ => hime, fun _ _ _ => hdelay, fun _ => hhalted, fun _ _ => hfault, hd.config⟩
  | di => exact ⟨fun h => absurd rfl h, fun h => absurd rfl h, fun _ => rfl, fun _ _ => rfl, rfl, rfl, rfl⟩
  | ei => exact ⟨fun _ _ => rfl, fun _ _ h => absurd rfl h, fun _ => rfl, fun _ _ => rfl, rfl, rfl, rfl⟩
  | reti =>
    exact ⟨fun _ h => absurd rfl h, fun _ h => absurd rfl h, fun _ => by simp [State.returnFromInterrupt],
      fun _ _ => by simp [State.returnFromInterrupt], by simp [State.returnFromInterrupt]⟩
  | halt => exact ⟨fun _ _ => rfl, fun _ _ _ => rfl, fun h => absurd rfl h, fun _ _ => rfl, rfl, rfl, rfl⟩
  | stop n => exact ⟨fun _ _ => rfl, fun _ _ _ => rfl, fun _ => rfl, fun h => absurd rfl (h n), rfl, rfl, rfl⟩
  | illegal hop henc =>
    exact ⟨fun _ _ => rfl, fun _ _ _ => rfl, fun _ => rfl, fun _ h => absurd henc (h _ hop), rfl, rfl, rfl⟩

/-! ### Flags (R107) -/

/-- The bits of F a shape may write; `.cb` is no row's shape once it is resolved (`instrShape`). -/
def Shape.flagMask : Shape → Byte
  | .aluReg .. | .aluMem _ | .aluImm .. | .rotA _ | .rotReg .. | .rotMem _ | .addSp _ | .hlSp _ | .pop .af => 0xF0
  | .incReg _ | .decReg _ | .incMem | .decMem | .bitReg .. | .bitMem _ => 0xE0
  | .daa => 0xB0
  | .scf | .ccf | .addHl _ => 0x70
  | .cpl => 0x60
  | _ => 0x00

theorem flagMask_prefixCb (op : Byte) : flagMask (encode (.prefixCb op)) = (cbShape op).flagMask := by
  have hmask : flagMask (encode (.prefixCb op)) = match opX op with | 0 => 0xF0 | 1 => 0xE0 | _ => 0x00 := rfl
  rw [hmask]
  unfold cbShape
  generalize opX op = x, Reg8.ofCode (opZ op) = r
  fin_cases x <;> cases r <;> rfl

/-- The footprint's mask of an instruction is its shape's. -/
theorem flagMask_encode (i : Instr) : flagMask (encode i) = (instrShape i).flagMask := by
  cases i with
  | prefixCb op => exact flagMask_prefixCb op
  | _ => rfl

/-- The bits of a flag byte (R104). -/
theorem Flags.getLsbD_byte (fl : Flags) {j : Nat} (hj : j < 8) :
    fl.byte.getLsbD j = if j = 7 then fl.z else if j = 6 then fl.n else if j = 5 then fl.h else if j = 4 then fl.c else false := by
  obtain ⟨z, n, h, c⟩ := fl
  revert z n h c j
  unfold Flags.byte
  decide

/-- Two flag bytes agree off a mask when every flag outside it does. -/
theorem Flags.byte_agree_off {m : Byte} {x y : Flags} (hz : m.getLsbD 7 = true ∨ x.z = y.z) (hn : m.getLsbD 6 = true ∨ x.n = y.n)
    (hh : m.getLsbD 5 = true ∨ x.h = y.h) (hc : m.getLsbD 4 = true ∨ x.c = y.c) : x.byte &&& ~~~ m = y.byte &&& ~~~ m := by
  have hbit : ∀ j < 8, m.getLsbD j = false → x.byte.getLsbD j = y.byte.getLsbD j := by
    intro j hj hm
    rw [Flags.getLsbD_byte x hj, Flags.getLsbD_byte y hj]
    split_ifs with h7 h6 h5 h4
    · exact hz.resolve_left (by simp [← h7, hm])
    · exact hn.resolve_left (by simp [← h6, hm])
    · exact hh.resolve_left (by simp [← h5, hm])
    · exact hc.resolve_left (by simp [← h4, hm])
    · rfl
  apply BitVec.eq_of_getLsbD_eq
  intro j hj
  rw [BitVec.getLsbD_and, BitVec.getLsbD_and, BitVec.getLsbD_not]
  cases hm : m.getLsbD j with
  | false => rw [hbit j hj hm]
  | true => simp

/-- F agrees off a mask where the flags written agree with the flags held. -/
theorem State.regF_agree_off {m : Byte} {s t : State} {fl : Flags} (ht : t.f = fl.byte &&& 0xF0)
    (hz : m.getLsbD 7 = true ∨ fl.z = s.flags.z) (hn : m.getLsbD 6 = true ∨ fl.n = s.flags.n)
    (hh : m.getLsbD 5 = true ∨ fl.h = s.flags.h) (hc : m.getLsbD 4 = true ∨ fl.c = s.flags.c) :
    t.regF &&& ~~~ m = s.regF &&& ~~~ m := by
  have htf : t.regF = fl.byte := by simp [State.regF, ht]
  rw [htf, State.regF_eq_byte]
  exact Flags.byte_agree_off hz hn hh hc

/-- Nothing of F lies outside the mask of all four flags. -/
theorem State.regF_off_all (s : State) : s.regF &&& ~~~ (0xF0 : Byte) = 0 := by
  rw [State.regF, BitVec.and_assoc]
  exact BitVec.and_zero

@[simp] theorem State.write16_f (s : State) (x v : Word) : (s.write16 x v).f = s.f := by simp [State.write16]
@[simp] theorem State.call_f (s : State) (x : Word) : (s.call x).f = s.f := by simp [State.call]
@[simp] theorem State.ret_f (s : State) : s.ret.f = s.f := by simp [State.ret]
@[simp] theorem State.returnFromInterrupt_f (s : State) : s.returnFromInterrupt.f = s.f := by simp [State.returnFromInterrupt]
@[simp] theorem State.raiseFault_f (s : State) (r : FaultReason) (n : Nat) : (s.raiseFault r n).f = s.f := rfl

theorem jumpIf_f {cc : Cond} {x : Word} {m n : Nat} {s t : State} (h : jumpIf cc x m n s = .next t) : t.f = s.f := by
  unfold jumpIf at h
  split at h <;> cases h <;> rfl

theorem callIf_f {cc : Cond} {x : Word} {s t : State} (h : callIf cc x s = .next t) : t.f = s.f := by
  unfold callIf at h
  split at h <;> cases h <;> simp

theorem returnIf_f {cc : Cond} {s t : State} (h : returnIf cc s = .next t) : t.f = s.f := by
  unfold returnIf at h
  split at h <;> cases h <;> simp

theorem execStop_f {n : Byte} {s t : State} (h : execStop n s = .next t) : t.f = s.f := by
  unfold execStop at h
  split at h <;> cases h <;> rfl

/-- A shape keeps the flags its mask does not name. -/
theorem Shape.run_keeps_flags {i : Instr} {h : Shape} (hn : h.Names i) {s t : State} (hr : h.run s = .next t) :
    t.regF &&& ~~~ h.flagMask = s.regF &&& ~~~ h.flagMask := by
  have written : h.flagMask = 0xF0 → t.regF &&& ~~~ h.flagMask = s.regF &&& ~~~ h.flagMask := by
    intro hm
    rw [hm, State.regF_off_all, State.regF_off_all]
  have unchanged : t.f = s.f → t.regF &&& ~~~ h.flagMask = s.regF &&& ~~~ h.flagMask := by
    intro hf
    rw [State.regF, State.regF, hf]
  cases h with
  | cb op => exact hn.elim
  | aluReg | aluMem | aluImm | rotA | rotReg | rotMem | addSp | hlSp => exact written rfl
  | incReg r | decReg r | incMem | decMem | bitReg b r | bitMem b =>
    cases hr; exact State.regF_agree_off (m := 0xE0) rfl (.inl rfl) (.inl rfl) (.inl rfl) (.inr rfl)
  | daa => cases hr; exact State.regF_agree_off (m := 0xB0) rfl (.inl rfl) (.inr rfl) (.inl rfl) (.inl rfl)
  | scf | ccf | addHl p => cases hr; exact State.regF_agree_off (m := 0x70) rfl (.inr rfl) (.inl rfl) (.inl rfl) (.inl rfl)
  | cpl => cases hr; exact State.regF_agree_off (m := 0x60) rfl (.inr rfl) (.inl rfl) (.inl rfl) (.inr rfl)
  | pop p =>
    cases p with
    | af => exact written rfl
    | bc | de | hl => cases hr; exact unchanged (by simp [State.setPairAf])
  | jpIf cc x | jrIf cc x => exact unchanged (jumpIf_f hr)
  | callIf cc x => exact unchanged (callIf_f hr)
  | retIf cc => exact unchanged (returnIf_f hr)
  | stop => exact unchanged (execStop_f (n := 0) hr)
  | _ => cases hr; exact unchanged (by simp)
/-- Settles O18, over the shapes: one writes no flag, or all four, or the flags its rule names and each other one as it was. -/
theorem onlyTheRulesFlagsChange : Obligations.OnlyTheRulesFlagsChange := by
  unfold Obligations.OnlyTheRulesFlagsChange
  intro i s t hexec
  rw [exec_eq_instrShape] at hexec
  rw [flagMask_encode]
  exact Shape.run_keeps_flags (instrShape_names i) hexec

end Sys2Proof.Machine
end

section
/-! SUPPORT. The registers' pairs, F's low nibble, and the two latches on the bus (spec/10_state.md R101, R105, R121). -/

namespace Sys2Proof.Machine

/-! ### Pairs and F -/

theorem Word_hi_eq_high (w : Word) : w.hi = Spec.high w := by
  ext j hj
  simp [Word.hi, Spec.high]

theorem Word_lo_eq_low (w : Word) : w.lo = Spec.low w := by
  ext j hj
  simp [Word.lo, Spec.low]

/-- A word whose low byte is masked is the word with its bits 3:0 masked. -/
theorem Word_ofBytes_mask (x y : Byte) : Word.ofBytes x (y &&& 0xF0) = Word.ofBytes x y &&& 0xFFF0 := by
  have hmask : (0xFFF0 : Word) = 0xFF#8 ++ 0xF0#8 := rfl
  rw [Word.ofBytes, Word.ofBytes, hmask, BitVec.and_append]
  congr 1
  exact BitVec.and_allOnes.symm

/-- Settles O58: a pair is read and written by its two bytes, and F's byte is masked on both ways. -/
theorem pairsAliasRegisters : Obligations.PairsAliasRegisters := by
  unfold Obligations.PairsAliasRegisters
  intro s w
  have haf : (s.setAf w).af = w &&& 0xFFF0 := by
    rw [State.af, State.setAf_a, State.regF, State.setAf_f, mask_mask, Word_ofBytes_mask, Word_ofBytes_hi_lo]
  have hhi := Word_hi_eq_high w
  have hlo := Word_lo_eq_low w
  have hpair := Word_ofBytes_hi_lo w
  exact ⟨⟨rfl, rfl, rfl, rfl⟩, ⟨hpair, hpair, hpair, haf⟩, ⟨hhi, hhi, hhi, hhi⟩, ⟨hlo, hlo, hlo⟩⟩

/-- Settles O59: every reader masks F, and so does every writer. -/
theorem fLowNibbleReadsZero : Obligations.FLowNibbleReadsZero := by
  unfold Obligations.FLowNibbleReadsZero
  intro s v w fl p q
  have hread : ∀ t : State, t.regF &&& 0x0F = 0 := fun t => mask_low t.f
  exact ⟨hread s, hread _, hread _, rfl, mask_low _, by rw [State.setAf_f, Word_lo_eq_low]⟩

/-! ### The latches behind every `BUS` (R121) -/

theorem resolve_latch (p : Params) {x : Word} (h : x = 0xFFFF ∨ x = 0xFF0F) : resolve p x = x := if_pos h

theorem owner_interruptEnable (p : Params) : owner p 0xFFFF = .interruptEnable := by
  rw [owner, resolve_latch p (.inl rfl), ownerAt, if_pos rfl]

theorem owner_interruptFlag (p : Params) : owner p 0xFF0F = .interruptFlag := by
  rw [owner, resolve_latch p (.inr rfl), ownerAt, if_neg (by decide), if_pos rfl]

theorem State.read_interruptEnable (s : State) : s.read 0xFFFF = s.ie := by
  have h := owner_interruptEnable s.params
  unfold owner at h
  simp only [State.read, h]

theorem State.read_interruptFlag (s : State) : s.read 0xFF0F = s.iflag := by
  have h := owner_interruptFlag s.params
  unfold owner at h
  simp only [State.read, h]

theorem State.write_interruptEnable (s : State) (v : Byte) : s.write 0xFFFF v = { s with ie := v } := by
  have h := owner_interruptEnable s.params
  rw [State.write_eq_store (h ▸ nofun)]
  unfold owner at h
  simp only [State.store, h]

theorem State.write_interruptFlag (s : State) (v : Byte) : s.write 0xFF0F v = { s with iflag := v } := by
  have h := owner_interruptFlag s.params
  rw [State.write_eq_store (h ▸ nofun)]
  unfold owner at h
  simp only [State.store, h]

/-- Settles O52, by the owners of the two addresses. -/
theorem latchesAreBusLocations : Obligations.LatchesAreBusLocations := by
  unfold Obligations.LatchesAreBusLocations
  intro s v
  rw [State.write_interruptEnable, State.write_interruptFlag]
  exact ⟨State.read_interruptEnable s, State.read_interruptFlag s, rfl, rfl, rfl, rfl⟩

end Sys2Proof.Machine
end

section
/-! SUPPORT. Memory in canonical form is determined by what it reads as (spec/20_memory.md R220). -/

namespace Sys2Proof.Machine

/-- A memory in canonical form that reads as unlisted at every address lists nothing. -/
theorem Memory.eq_nil_of_read {lo : Nat} {m : Memory} (h : Memory.wfFrom lo m = true)
    (hr : ∀ a < 65536, m.read a = Memory.unlisted) : m = [] := by
  cases m with
  | nil => rfl
  | cons c rest =>
    obtain ⟨k, v⟩ := c
    obtain ⟨-, hk, hv, -⟩ := Memory.wfFrom_cons.mp h
    exact absurd ((if_pos rfl).symm.trans (hr k hk)) hv

/-- The first address a memory lists is no lower than that of another that reads the same. -/
theorem Memory.head_le_of_read {k k' : Nat} {v v' : Byte} {rest rest' : Memory} (hk : k < 65536) (hv : v ≠ Memory.unlisted)
    (h' : Memory.wfFrom k' ((k', v') :: rest') = true)
    (hr : ∀ a < 65536, Memory.read ((k, v) :: rest) a = Memory.read ((k', v') :: rest') a) : k' ≤ k := by
  by_contra hlt
  have hread : Memory.read ((k, v) :: rest) k = Memory.unlisted := (hr k hk).trans (Memory.read_below h' (not_le.mp hlt))
  exact hv ((if_pos rfl).symm.trans hread)

/-- Two memories in canonical form that read the same at every address are the same list. -/
theorem Memory.eq_of_read {lo lo' : Nat} {m m' : Memory} (h : Memory.wfFrom lo m = true) (h' : Memory.wfFrom lo' m' = true)
    (hr : ∀ a < 65536, m.read a = m'.read a) : m = m' := by
  induction m generalizing lo lo' m' with
  | nil => exact (Memory.eq_nil_of_read h' fun a ha => (hr a ha).symm).symm
  | cons c rest ih =>
    cases m' with
    | nil => exact Memory.eq_nil_of_read h hr
    | cons c' rest' =>
      obtain ⟨k, v⟩ := c
      obtain ⟨k', v'⟩ := c'
      obtain ⟨-, hk, hv, hrest⟩ := Memory.wfFrom_cons.mp h
      obtain ⟨-, hk', hv', hrest'⟩ := Memory.wfFrom_cons.mp h'
      have hle : k' ≤ k := Memory.head_le_of_read hk hv (Memory.wfFrom_cons.mpr ⟨le_rfl, hk', hv', hrest'⟩) hr
      have hge : k ≤ k' := Memory.head_le_of_read hk' hv' (Memory.wfFrom_cons.mpr ⟨le_rfl, hk, hv, hrest⟩) fun a ha => (hr a ha).symm
      obtain rfl : k = k' := le_antisymm hge hle
      obtain rfl : v = v' := by simpa [Memory.read] using hr k hk
      have htail : ∀ a < 65536, Memory.read rest a = Memory.read rest' a := by
        intro a ha
        by_cases hak : a = k
        · rw [hak, Memory.read_below hrest (Nat.lt_succ_self k), Memory.read_below hrest' (Nat.lt_succ_self k)]
        · simpa [Memory.read, hak] using hr a ha
      rw [ih hrest hrest' htail]

/-- Settles O49: by induction on the one memory, their first entries being the same. -/
theorem equalMemoriesAreEqualData : Obligations.EqualMemoriesAreEqualData := by
  unfold Obligations.EqualMemoriesAreEqualData
  refine ⟨fun m m' h h' hr => Memory.eq_of_read h h' fun a ha => ?_, fun m x v h => Memory.write_wf h x.isLt v⟩
  simpa [Nat.mod_eq_of_lt ha] using hr (BitVec.ofNat 16 a)

end Sys2Proof.Machine
end

section
/-! SUPPORT. A byte of plain memory, and the default `BUS`: its unclaimed addresses, its ROM under the boot overlay
(spec/20_memory.md R200, R207, R221, R222, R226). -/

namespace Sys2Proof.Machine

/-! ### One access by the owner of its address -/

/-- Where nothing takes a store, a write changes nothing (R221, R1023). -/
theorem State.write_ignored {s : State} {x : Word} (h : owner s.params x = .rom ∨ owner s.params x = .openBus) (v : Byte) :
    s.write x v = s := by
  have hne : owner s.params x ≠ .dmaTrigger := by rcases h with h | h <;> rw [h] <;> exact nofun
  rw [State.write_eq_store hne]
  unfold owner at h
  rcases h with h | h <;> simp only [State.store, h]

/-- An address no owner claims reads 0xFF (R221). -/
theorem State.read_openBus {s : State} {x : Word} (h : owner s.params x = .openBus) : s.read x = 0xFF := by
  unfold owner at h
  simp only [State.read, h, Config.openBusByte]

/-- A ROM address reads the boot image or the cartridge (R222). -/
theorem State.read_rom {s : State} {x : Word} (h : owner s.params x = .rom) :
    s.read x = if s.overlay && decide (resolve s.params x < 0x0100) then s.bootRom.read (resolve s.params x).toNat
      else s.mem.read (resolve s.params x).toNat := by
  unfold owner at h
  simp only [State.read, h]

/-- A write to the register that ends the overlay (R222). -/
theorem State.write_bootDisable {s : State} {x : Word} (h : owner s.params x = .bootDisable) (v : Byte) :
    s.write x v = { s.poke (resolve s.params x) v with overlay := false } := by
  have hne : owner s.params x ≠ .dmaTrigger := by rw [h]; exact nofun
  rw [State.write_eq_store hne]
  unfold owner at h
  simp only [State.store, h]

/-- A write to plain memory changes its byte of `mem` (R200). -/
theorem State.write_plain {s : State} {x : Word} (h : Spec.plain s.params x) (v : Byte) :
    s.write x v = s.poke (resolve s.params x) v := by
  have hne : owner s.params x ≠ .dmaTrigger := by rcases h with h | h | h | h | h <;> rw [h] <;> exact nofun
  rw [State.write_eq_store hne]
  unfold Spec.plain owner at h
  rcases h with h | h | h | h | h <;> simp only [State.store, h]

/-! ### Plain memory -/

theorem memBacked_of_plain {p : Params} {x : Word} (h : Spec.plain p x) : memBacked p (resolve p x) = true := by
  unfold memBacked
  unfold Spec.plain owner at h
  rcases h with h | h | h | h | h <;> rw [h]

theorem owner_ne_rom_of_plain {p : Params} {x : Word} (h : Spec.plain p x) : owner p x ≠ .rom := by
  rcases h with h | h | h | h | h <;> rw [h] <;> exact nofun

/-- Settles O48: a write to plain memory changes its byte of `mem`, and any write leaves the reads it does not touch. -/
theorem readAfterWrite : Obligations.ReadAfterWrite := by
  unfold Obligations.ReadAfterWrite
  intro s x v hmem
  have hwf := State.memOk_wf hmem
  refine ⟨fun hx => ?_, fun hx k hk => ?_, fun k hk => State.read_write_untouched hmem v hk⟩
  · rw [State.write_plain hx]
    exact State.read_poke_self s hwf v (memBacked_of_plain hx) fun ⟨hrom, _⟩ => owner_ne_rom_of_plain hx hrom
  · rw [State.write_plain hx]
    exact State.read_poke_of_ne s hwf _ v hk

/-! ### The default bus -/

section
variable {p : Params} (hbus : p.bus = .standard)
include hbus

theorem owner_standard_rom {x : Word} (h : x < 0x8000) : owner p x = .rom := by
  rw [owner_standard hbus, standardOwner, if_pos h]

theorem owner_standard_bootDisable : owner p 0xFF50 = .bootDisable := by
  rw [owner_standard hbus]; rfl

theorem owner_standard_dmaTrigger : owner p 0xFF46 = .dmaTrigger := by
  rw [owner_standard hbus]; rfl

theorem owner_standard_oam {x : Word} (hlo : 0xFE00 ≤ x) (hhi : x < 0xFEA0) : owner p x = .oam := by
  rw [owner_standard hbus, standardOwner, if_neg (by bv_omega), if_neg (by bv_omega), if_neg (by bv_omega),
    if_neg (by bv_omega), if_neg (by bv_omega), if_pos hhi]

/-- The I/O addresses of the default bus have the owners of R952. -/
theorem owner_standard_io {x : Word} (hlo : 0xFF00 ≤ x) (hhi : x < 0xFF80) : owner p x = ioOwner p x := by
  rw [owner_standard hbus, standardOwner, if_neg (by bv_omega), if_neg (by bv_omega), if_neg (by bv_omega),
    if_neg (by bv_omega), if_neg (by bv_omega), if_neg (by bv_omega), if_neg (by bv_omega), if_pos hhi]

/-- No owner claims the 0x1E00 addresses above work RAM. -/
theorem owner_standard_openBus_aboveWorkRam {x : Word} (hlo : 0xE000 ≤ x) (hhi : x < 0xFE00) : owner p x = .openBus := by
  rw [owner_standard hbus, standardOwner, if_neg (by bv_omega), if_neg (by bv_omega), if_neg (by bv_omega),
    if_neg (by bv_omega), if_pos hhi]

/-- No owner claims the 0x60 addresses above OAM. -/
theorem owner_standard_openBus_aboveOam {x : Word} (hlo : 0xFEA0 ≤ x) (hhi : x < 0xFF00) : owner p x = .openBus := by
  rw [owner_standard hbus, standardOwner, if_neg (by bv_omega), if_neg (by bv_omega), if_neg (by bv_omega),
    if_neg (by bv_omega), if_neg (by bv_omega), if_neg (by bv_omega), if_pos hhi]

end

/-- An I/O address that neither the model nor a device serves is open bus (R221). -/
theorem ioOwner_openBus {p : Params} {x : Word} (hclaimed : x ∉ p.ioClaimed)
    (hserved : x ∉ ([0xFF04, 0xFF05, 0xFF06, 0xFF07, 0xFF0F, 0xFF46, 0xFF50] : List Word)) : ioOwner p x = .openBus := by
  simp only [List.mem_cons, List.not_mem_nil, or_false, not_or] at hserved
  simp only [ioOwner, hserved, hclaimed, if_false]

/-- Settles O51: a ROM address takes no store. -/
theorem romStoresChangeNothing : Obligations.RomStoresChangeNothing := by
  unfold Obligations.RomStoresChangeNothing
  intro s x v hbus hx
  exact State.write_ignored (.inl (owner_standard_rom hbus hx)) v

/-- Settles O50: no owner claims the addresses of the three ranges. -/
theorem openBusReadsFf : Obligations.OpenBusReadsFf := by
  unfold Obligations.OpenBusReadsFf
  intro s x v hbus hx
  have hopen : owner s.params x = .openBus := by
    rcases hx with ⟨hlo, hhi⟩ | ⟨hlo, hhi⟩ | ⟨hlo, hhi, hclaimed, hserved⟩
    · exact owner_standard_openBus_aboveWorkRam hbus hlo hhi
    · exact owner_standard_openBus_aboveOam hbus hlo hhi
    · rw [owner_standard_io hbus hlo hhi, ioOwner_openBus hclaimed hserved]
  exact ⟨State.read_openBus hopen, State.write_ignored (.inr hopen) v⟩

/-- Behind the default bus a ROM address reads the boot image where the overlay covers it, else the cartridge (R222). -/
theorem State.read_standard_rom {s : State} {x : Word} (hbus : s.params.bus = .standard) (h : x < 0x8000) :
    s.read x = if s.overlay && decide (x < 0x0100) then s.bootRom.read x.toNat else s.mem.read x.toNat := by
  rw [State.read_rom (owner_standard_rom hbus h), resolve_standard hbus]

/-- Settles O54: by the read of a ROM address, before and after the write that ends the overlay. -/
theorem bootOverlayServesTheImage : Obligations.BootOverlayServesTheImage := by
  unfold Obligations.BootOverlayServesTheImage
  intro s x v hmem hbus
  have hwrite : s.write 0xFF50 v = { s.poke 0xFF50 v with overlay := false } := by
    rw [State.write_bootDisable (owner_standard_bootDisable hbus), resolve_standard hbus]
  have hover : (s.write 0xFF50 v).overlay = false := by rw [hwrite]
  refine ⟨fun hon hx => ?_, fun hlo hx => ?_, hover, fun hx => ?_⟩
  · rw [State.read_standard_rom hbus (by bv_omega), hon, decide_eq_true hx, Bool.and_self, if_pos rfl]
  · rw [State.read_standard_rom hbus hx, decide_eq_false (by bv_omega), Bool.and_false, if_neg Bool.false_ne_true]
  · have hne : x.toNat ≠ (0xFF50 : Word).toNat := by bv_omega
    have hmem' : (s.write 0xFF50 v).mem.read x.toNat = s.mem.read x.toNat := by
      rw [hwrite]
      exact (Memory.read_write (State.memOk_wf hmem) _ v _).trans (if_neg hne)
    rw [State.read_standard_rom (by simpa using hbus) hx, hover, Bool.false_and, if_neg Bool.false_ne_true, hmem']

end Sys2Proof.Machine
end

section
/-! SUPPORT. OAM DMA behind the default `BUS` (spec/20_memory.md R223): each byte of the copy is read as it was before, and stored where no
later one lands. -/

namespace Sys2Proof.Machine

/-- A byte stored at the trigger, the copy apart. -/
theorem State.store_dmaTrigger {s : State} {x : Word} (h : owner s.params x = .dmaTrigger) (v : Byte) :
    s.store x v = s.poke (resolve s.params x) v := by
  unfold owner at h
  simp only [State.store, h]

/-- A write to the trigger stores its byte, then copies (R223). -/
theorem State.write_dmaTrigger {s : State} {x : Word} (h : owner s.params x = .dmaTrigger) (v : Byte) :
    s.write x v = State.dmaCopy v 160 (s.store x v) := by
  simp only [State.write, h]

@[simp] theorem State.dmaCopy_params (s : State) (src : Byte) (n : Nat) : (State.dmaCopy src n s).params = s.params :=
  State.dmaCopy_induct (P := fun t => t.params = s.params) (fun t x h => (State.afterRead_params t x).trans h)
    (fun t x v h => (State.store_params t x v).trans h) rfl src n

theorem State.dmaCopy_memOk {s : State} (h : s.memOk = true) (src : Byte) (n : Nat) : (State.dmaCopy src n s).memOk = true :=
  State.dmaCopy_induct (P := fun t => t.memOk = true) (fun _ x h => State.afterRead_memOk h x)
    (fun _ x v h => State.store_memOk h x v) h src n

/-! ### The default bus -/

theorem oam_range {n : Nat} (hn : n < 160) :
    (0xFE00 : Word) ≤ 0xFE00 + BitVec.ofNat 16 n ∧ 0xFE00 + BitVec.ofNat 16 n < (0xFEA0 : Word) := by
  constructor <;> bv_omega

/-- The address of the `n`-th source byte. -/
theorem dmaSource_toNat (src : Byte) {n : Nat} (hn : n < 160) : (Word.ofBytes src (BitVec.ofNat 8 n)).toNat = src.toNat * 256 + n := by
  rw [Word_ofBytes_toNat, BitVec.toNat_ofNat, Nat.mod_eq_of_lt (by omega)]

section
variable {s : State} (hmem : s.memOk = true) (hbus : s.params.bus = .standard)

section
include hbus

/-- A store to a byte of OAM touches no other address. -/
theorem byteTouches_oam_of_ne {m : Nat} (hm : m < 160) {k : Word} (hk : k ≠ 0xFE00 + BitVec.ofNat 16 m) :
    byteTouches s.params (0xFE00 + BitVec.ofNat 16 m) k = false := by
  obtain ⟨hlo, hhi⟩ := oam_range hm
  rw [byteTouches, owner_standard_oam hbus hlo hhi, resolve_standard hbus, resolve_standard hbus]
  simpa using hk

/-- A byte stored at the trigger, the copy apart, touches no other address. -/
theorem byteTouches_dmaTrigger_of_ne {k : Word} (hk : k ≠ 0xFF46) : byteTouches s.params 0xFF46 k = false := by
  rw [byteTouches, owner_standard_dmaTrigger hbus, resolve_standard hbus, resolve_standard hbus]
  simpa using hk

/-- A write to the trigger touches itself and OAM (R223). -/
theorem storeTouches_dmaTrigger_of_ne {k : Word} (hoam : ¬ (0xFE00 ≤ k ∧ k < 0xFEA0)) (hk : k ≠ 0xFF46) :
    storeTouches s.params 0xFF46 k = false := by
  have hcopy : ∀ m < 160, byteTouches s.params (0xFE00 + BitVec.ofNat 16 m) k = false := fun m hm =>
    byteTouches_oam_of_ne hbus hm fun he => hoam (he ▸ oam_range hm)
  rw [storeTouches, byteTouches_dmaTrigger_of_ne hbus hk, owner_standard_dmaTrigger hbus]
  simpa [owner_standard_ne_scripted hbus k] using hcopy

/-- A stored byte of OAM is read back. -/
theorem State.read_store_oam (hmem : s.memOk = true) {m : Nat} (hm : m < 160) (v : Byte) :
    (s.store (0xFE00 + BitVec.ofNat 16 m) v).read (0xFE00 + BitVec.ofNat 16 m) = v := by
  obtain ⟨hlo, hhi⟩ := oam_range hm
  have howner := owner_standard_oam hbus hlo hhi
  rw [← State.write_eq_store (by rw [howner]; exact nofun)]
  exact (readAfterWrite s _ v hmem).1 (.inr (.inr (.inr (.inl howner))))

/-- The trigger holds the byte stored there. -/
theorem State.read_store_dmaTrigger (hmem : s.memOk = true) (v : Byte) : (s.store 0xFF46 v).read 0xFF46 = v := by
  have howner := owner_standard_dmaTrigger hbus
  have hback : memBacked s.params (resolve s.params 0xFF46) = true := memBacked_of_owner howner (by simp)
  rw [State.store_dmaTrigger howner]
  exact State.read_poke_self s (State.memOk_wf hmem) v hback fun ⟨hrom, _⟩ => absurd (howner.symm.trans hrom) nofun

end

include hmem hbus

/-- The part of the copy already done leaves the next byte of its source, even where the source is OAM itself. -/
theorem State.read_dmaCopy_source (src : Byte) {n : Nat} (hn : n < 160) :
    (State.dmaCopy src n s).read (Word.ofBytes src (BitVec.ofNat 8 n)) = s.read (Word.ofBytes src (BitVec.ofNat 8 n)) := by
  refine (State.read_dmaCopy hmem src (owner_standard_ne_scripted hbus _) fun m hm => ?_).1
  have hsrc := dmaSource_toNat src hn
  exact byteTouches_oam_of_ne hbus (by omega) (by bv_omega)

/-- Each byte of the copy is the byte its source read before the copy. -/
theorem State.dmaCopy_succ_standard (src : Byte) {n : Nat} (hn : n < 160) :
    State.dmaCopy src (n + 1) s =
      (State.dmaCopy src n s).store (0xFE00 + BitVec.ofNat 16 n) (s.read (Word.ofBytes src (BitVec.ofNat 8 n))) := by
  have hquiet : owner (State.dmaCopy src n s).params (Word.ofBytes src (BitVec.ofNat 8 n)) ≠ .scripted :=
    owner_standard_ne_scripted (by simpa using hbus) _
  rw [State.dmaCopy, State.afterRead_of_ne hquiet, State.read_dmaCopy_source hmem hbus src hn]

/-- After the copy each byte of OAM reads as its source read before. -/
theorem State.read_dmaCopy_oam (src : Byte) {n m : Nat} (hn : n ≤ 160) (hm : m < n) :
    (State.dmaCopy src n s).read (0xFE00 + BitVec.ofNat 16 m) = s.read (Word.ofBytes src (BitVec.ofNat 8 m)) := by
  induction n with
  | zero => exact absurd hm (Nat.not_lt_zero m)
  | succ n ih =>
    have hok := State.dmaCopy_memOk hmem src n
    have hbus' : (State.dmaCopy src n s).params.bus = .standard := by simpa using hbus
    rw [State.dmaCopy_succ_standard hmem hbus src (by omega)]
    rcases Nat.lt_succ_iff_lt_or_eq.mp hm with hlt | rfl
    · rw [State.read_store_untouched hok _ (byteTouches_oam_of_ne hbus' (by omega) (by bv_omega)), ih (by omega) hlt]
    · exact State.read_store_oam hbus' hok (by omega) _

/-- What the copy reads from a page once the trigger holds the page's number (log 10). -/
theorem State.read_dmaSource_after_trigger (v : Byte) {n : Nat} (hn : n < 160) :
    (s.store 0xFF46 v).read (Word.ofBytes v (BitVec.ofNat 8 n)) =
      if v = 0xFF ∧ n = 0x46 then v else s.read (BitVec.ofNat 16 (v.toNat * 256 + n)) := by
  have hsrc := dmaSource_toNat v hn
  have hx : Word.ofBytes v (BitVec.ofNat 8 n) = BitVec.ofNat 16 (v.toNat * 256 + n) := by bv_omega
  rw [hx]
  split_ifs with htrig
  · obtain ⟨rfl, rfl⟩ := htrig
    exact State.read_store_dmaTrigger hbus hmem 0xFF
  · have hne : BitVec.ofNat 16 (v.toNat * 256 + n) ≠ 0xFF46 := by
      intro he
      exact htrig (by constructor <;> bv_omega)
    exact State.read_store_untouched hmem v (byteTouches_dmaTrigger_of_ne hbus hne)

end

/-- Settles O53: the 160 bytes one after another, then the reads that a write to the trigger does not touch. -/
theorem oamDmaCopies160Bytes : Obligations.OamDmaCopies160Bytes := by
  unfold Obligations.OamDmaCopies160Bytes
  intro s v hmem hbus
  refine ⟨fun n hn => ?_, fun k hoam hk => State.read_write_untouched hmem v (storeTouches_dmaTrigger_of_ne hbus hoam hk)⟩
  have hstored : (s.store 0xFF46 v).params.bus = .standard := by simpa using hbus
  rw [State.write_dmaTrigger (owner_standard_dmaTrigger hbus), State.read_dmaCopy_oam (State.store_memOk hmem _ v) hstored v le_rfl hn,
    State.read_dmaSource_after_trigger hmem hbus v hn]

end Sys2Proof.Machine
end

section
/-! SUPPORT. What no step brings back or changes: the boot overlay once off, the boot image, the parameters (spec/20_memory.md R222,
spec/60_exceptions.md R907). -/

namespace Sys2Proof.Machine

theorem State.store_overlay_off {s : State} (h : s.overlay = false) (x : Word) (v : Byte) : (s.store x v).overlay = false :=
  State.store_cases (P := fun t => t.overlay = false) s x v (fun _ => h) (fun _ _ => h) (fun _ => h) (fun _ => h) (fun _ => h)
    (fun _ => h) (fun _ => h) (fun _ => h) (fun _ => rfl)

theorem State.write_overlay_off {s : State} (h : s.overlay = false) (x : Word) (v : Byte) : (s.write x v).overlay = false :=
  State.write_induct (P := fun t => t.overlay = false) (fun t y ht => (State.afterRead_overlay t y).trans ht)
    (fun _ _ _ ht => State.store_overlay_off ht _ _) h x v

/-- The operations on data never turn the overlay on. -/
theorem State.DataReach.overlay_off {s t : State} (h : s.DataReach t) (hs : s.overlay = false) : t.overlay = false := by
  induction h with
  | refl => exact hs
  | write _ ih => exact State.write_overlay_off ih _ _
  | setReg _ ih | read _ ih | setF _ ih | setSp _ ih | setPc _ ih | charge _ ih => simpa using ih

theorem ExecCase.overlay_off {i : Instr} {s t : State} (h : ExecCase s i t) (hs : s.overlay = false) : t.overlay = false := by
  cases h with
  | data hd => exact hd.overlay_off hs
  | di | ei | halt | stop | illegal => exact hs
  | reti =>
    have hret : s.ret.overlay = false := (State.DataReach.ret .refl).overlay_off hs
    rw [State.charge_overlay, State.returnFromInterrupt_eq]
    exact hret

/-- What every part of a step keeps of the overlay, the boot image and the parameters. -/
structure State.KeepsBoot (s t : State) : Prop where
  overlay : s.overlay = false → t.overlay = false
  bootRom : t.bootRom = s.bootRom
  params : t.params = s.params

theorem State.KeepsBoot.elapse {s t : State} (h : s.KeepsBoot t) : s.KeepsBoot t.elapse :=
  ⟨by simpa using h.overlay, by simpa using h.bootRom, by simpa using h.params⟩

theorem State.KeepsBoot.bookkeeping {s t : State} (h : s.KeepsBoot t) : s.KeepsBoot t.bookkeeping :=
  ⟨by simpa using h.overlay, by simpa using h.bootRom, by simpa using h.params⟩

theorem State.KeepsBoot.dispatch (s : State) : s.KeepsBoot s.dispatch :=
  have ⟨hparams, hboot, _⟩ := (State.DataReach.dispatch s).config
  ⟨(State.DataReach.dispatch s).overlay_off, hboot, hparams⟩

theorem State.KeepsBoot.exec {i : Instr} {s u : State} (h : Machine.exec i s.pastFetch = .next u) : s.KeepsBoot u :=
  have ⟨_, _, _, _, hparams, hboot, _⟩ := onlyControlInstructionsChangeControlState i s.pastFetch u h
  ⟨fun hs => (exec_cases h).overlay_off (by simpa using hs), by simpa using hboot, by simpa using hparams⟩

theorem exec_pastFetch_env {i : Instr} {s u : State} (h : exec i s.pastFetch = .next u) : u.env = s.env := by
  obtain ⟨-, -, -, -, -, -, henv⟩ := onlyControlInstructionsChangeControlState i s.pastFetch u h
  simpa using henv

/-- Settles O15, by the cases of a step; the devices' turn, which a raised fault leaves out, uses up the event. -/
theorem stepsKeepTheOverlayOffAndTheParameters : Obligations.StepsKeepTheOverlayOffAndTheParameters := by
  unfold Obligations.StepsKeepTheOverlayOffAndTheParameters
  intro s t hstep
  suffices h : s.KeepsBoot t ∧ t.env = if t.fault = none then s.env.tail else s.env by
    obtain ⟨⟨hover, hboot, hparams⟩, henv⟩ := h
    exact ⟨hover, hboot, hparams, henv⟩
  obtain ⟨hfault, ⟨_, _, rfl⟩ | ⟨_, _, _, rfl⟩ | ⟨_, _, rfl⟩ | ⟨_, _, u, hexec, hu⟩⟩ := step_cases hstep
  · exact ⟨(State.KeepsBoot.dispatch s).elapse, by simp [State.dispatch, hfault]⟩
  · exact ⟨State.KeepsBoot.elapse ⟨id, rfl, rfl⟩, by simp [State.wake, hfault]⟩
  · exact ⟨State.KeepsBoot.elapse ⟨id, rfl, rfl⟩, by simp [State.idle, hfault]⟩
  · have hkeeps := State.KeepsBoot.exec hexec
    have henv := exec_pastFetch_env hexec
    obtain ⟨hraised, rfl⟩ | ⟨hcompleted, rfl⟩ := hu
    · exact ⟨hkeeps, henv.trans (if_neg hraised).symm⟩
    · exact ⟨hkeeps.bookkeeping.elapse, by simp [hcompleted, henv]⟩

end Sys2Proof.Machine
end

section
/-! SUPPORT. The frame of an instruction on memory (spec/20_memory.md R200, R207, R230): an instruction reads the addresses its shape loads
from, writes those it stores to, and its other operations leave what lies behind the bus. -/

namespace Sys2Proof.Machine

/-! ### What lies behind the bus -/

/-- The part of the state that answers reads. -/
def State.behindBus (s : State) : Params × Memory × Memory × Bool × Byte × Byte × Timer × List Byte × Nat :=
  (s.params, s.mem, s.bootRom, s.overlay, s.ie, s.iflag, s.timer, s.answers, s.draws)

theorem State.behindBus_eq_iff {s t : State} : t.behindBus = s.behindBus ↔
    t.params = s.params ∧ t.mem = s.mem ∧ t.bootRom = s.bootRom ∧ t.overlay = s.overlay ∧ t.ie = s.ie ∧ t.iflag = s.iflag ∧
      t.timer = s.timer ∧ t.answers = s.answers ∧ t.draws = s.draws := by
  simp only [State.behindBus, Prod.mk.injEq]

theorem State.read_congr_behindBus {s t : State} (h : t.behindBus = s.behindBus) (k : Word) : t.read k = s.read k := by
  obtain ⟨hparams, hmem, hboot, hover, hie, hif, htimer, hanswers, hdraws⟩ := State.behindBus_eq_iff.mp h
  simp only [State.read, hparams, hmem, hboot, hover, hie, hif, htimer, hanswers, hdraws]

@[simp] theorem State.setReg_behindBus (s : State) (r : Reg8) (v : Byte) : (s.setReg r v).behindBus = s.behindBus := by
  cases r <;> rfl

@[simp] theorem State.setPairSp_behindBus (s : State) (p : PairSp) (w : Word) : (s.setPairSp p w).behindBus = s.behindBus := by
  cases p <;> rfl

@[simp] theorem State.setPairAf_behindBus (s : State) (p : PairAf) (w : Word) : (s.setPairAf p w).behindBus = s.behindBus := by
  cases p <;> rfl

@[simp] theorem State.setHl_behindBus (s : State) (w : Word) : (s.setHl w).behindBus = s.behindBus := rfl
@[simp] theorem State.setFlags_behindBus (s : State) (fl : Flags) : (s.setFlags fl).behindBus = s.behindBus := rfl
@[simp] theorem State.setAFlags_behindBus (s : State) (r : Byte × Flags) : (s.setAFlags r).behindBus = s.behindBus := rfl
@[simp] theorem State.setSp_behindBus (s : State) (w : Word) : (s.setSp w).behindBus = s.behindBus := rfl
@[simp] theorem State.setPc_behindBus (s : State) (w : Word) : (s.setPc w).behindBus = s.behindBus := rfl
@[simp] theorem State.charge_behindBus (s : State) (n : Nat) : (s.charge n).behindBus = s.behindBus := rfl
@[simp] theorem State.raiseFault_behindBus (s : State) (r : FaultReason) (n : Nat) : (s.raiseFault r n).behindBus = s.behindBus := rfl

@[simp] theorem State.returnFromInterrupt_behindBus (s : State) : s.returnFromInterrupt.behindBus = s.ret.behindBus := by
  rw [State.returnFromInterrupt_eq]
  rfl

/-! ### States reached by reads and writes of given addresses -/

/-- `t` is reached from `s` by reads of addresses in `ld`, writes of addresses in `st`, and changes that leave what lies behind the bus. -/
inductive State.BusReach (s : State) (ld st : List Word) : State → Prop where
  | refl : s.BusReach ld st s
  | read {t : State} {x : Word} : s.BusReach ld st t → x ∈ ld → s.BusReach ld st (t.afterRead x)
  | write {t : State} {x : Word} {v : Byte} : s.BusReach ld st t → x ∈ st → s.BusReach ld st (t.write x v)
  | keep {t u : State} : s.BusReach ld st t → u.behindBus = t.behindBus → s.BusReach ld st u

namespace State.BusReach

variable {s t : State} {ld st : List Word}

theorem push16 {w : Word} (h : s.BusReach ld st t) (hhi : t.sp - 1 ∈ st) (hlo : t.sp - 2 ∈ st) : s.BusReach ld st (t.push16 w) := by
  rw [State.push16_eq]
  exact ((h.write hhi).write hlo).keep (State.setSp_behindBus _ _)

theorem popped (h : s.BusReach ld st t) (hlo : t.sp ∈ ld) (hhi : t.sp + 1 ∈ ld) : s.BusReach ld st t.popped :=
  ((h.read hlo).read hhi).keep (State.setSp_behindBus _ _)

theorem call {w : Word} (h : s.BusReach ld st t) (hhi : t.sp - 1 ∈ st) (hlo : t.sp - 2 ∈ st) : s.BusReach ld st (t.call w) :=
  (h.push16 hhi hlo).keep (State.setPc_behindBus _ _)

theorem ret (h : s.BusReach ld st t) (hlo : t.sp ∈ ld) (hhi : t.sp + 1 ∈ ld) : s.BusReach ld st t.ret :=
  (h.popped hlo hhi).keep (State.setPc_behindBus _ _)

theorem charge {n : Nat} (h : s.BusReach ld st t) : s.BusReach ld st (t.charge n) := h.keep (State.charge_behindBus t n)

theorem params (h : s.BusReach ld st t) : t.params = s.params := by
  induction h with
  | refl => rfl
  | read _ _ ih | write _ _ ih => simpa using ih
  | keep _ hbus ih => exact (State.behindBus_eq_iff.mp hbus).1.trans ih

theorem memOk (h : s.BusReach ld st t) (hs : s.memOk = true) : t.memOk = true := by
  induction h with
  | refl => exact hs
  | read _ _ ih => exact State.afterRead_memOk ih _
  | write _ _ ih => exact State.write_memOk ih _ _
  | keep _ hbus ih =>
    obtain ⟨hparams, hmem, -⟩ := State.behindBus_eq_iff.mp hbus
    exact (State.memOk_congr hmem hparams).trans ih

/-- An address that no write touches reads as before, unless it is scripted and so is one of those read. -/
theorem read_untouched (h : s.BusReach ld st t) (hs : s.memOk = true) {k : Word}
    (hst : ∀ a ∈ st, storeTouches s.params a k = false)
    (hld : owner s.params k ≠ .scripted ∨ ∀ a ∈ ld, owner s.params a ≠ .scripted) : t.read k = s.read k := by
  induction h with
  | refl => rfl
  | @read t x ht hx ih =>
    have hparams := ht.params
    rcases hld with hk | hld
    · exact (State.read_afterRead (hparams ▸ hk) x).trans ih
    · rw [State.afterRead_of_ne (hparams ▸ hld x hx), ih]
  | write ht hx ih => exact (State.read_write_untouched (ht.memOk hs) _ (ht.params ▸ hst _ hx)).trans ih
  | keep _ hbus ih => exact (State.read_congr_behindBus hbus k).trans ih

/-- Without a write, memory, the latches, the overlay and the timer stay. -/
theorem unwritten (h : s.BusReach ld st t) (hst : st = []) :
    t.mem = s.mem ∧ t.ie = s.ie ∧ t.iflag = s.iflag ∧ t.overlay = s.overlay ∧ t.timer = s.timer := by
  induction h with
  | refl => exact ⟨rfl, rfl, rfl, rfl, rfl⟩
  | read _ _ ih => simpa using ih
  | write _ hx _ => exact absurd (hst ▸ hx) List.not_mem_nil
  | keep _ hbus ih =>
    obtain ⟨-, hmem, -, hover, hie, hif, htimer, -⟩ := State.behindBus_eq_iff.mp hbus
    rwa [hmem, hie, hif, hover, htimer]

/-- Without a read of a scripted address and without an OAM copy, the environment's answers stay. -/
theorem answers_kept (h : s.BusReach ld st t) (hld : ∀ a ∈ ld, owner s.params a ≠ .scripted)
    (hst : ∀ a ∈ st, owner s.params a ≠ .dmaTrigger) : t.answers = s.answers ∧ t.draws = s.draws := by
  induction h with
  | refl => exact ⟨rfl, rfl⟩
  | read ht hx ih => rwa [State.afterRead_of_ne (ht.params ▸ hld _ hx)]
  | write ht hx ih => rwa [State.write_eq_store (ht.params ▸ hst _ hx), State.store_answers, State.store_draws]
  | keep _ hbus ih =>
    obtain ⟨-, -, -, -, -, -, -, hanswers, hdraws⟩ := State.behindBus_eq_iff.mp hbus
    rwa [hanswers, hdraws]

end State.BusReach

/-! ### The addresses of a shape -/

/-- The addresses a shape stores to; `.cb` is no row's shape once it is resolved (`instrShape`). -/
def Shape.stores (s : State) : Shape → List Word
  | .storeReg _ | .storeImm _ | .storeAHl _ | .incMem | .decMem | .rotMem _ | .resMem _ | .setMem _ => [s.hl]
  | .storeA x _ => [x.addr s]
  | .storeSp x => [x, x + 1]
  | .push _ | .call _ | .rst _ => [s.sp - 1, s.sp - 2]
  | .callIf cc _ => if s.flags.cond cc then [s.sp - 1, s.sp - 2] else []
  | _ => []

/-- The addresses a shape reads as operands; `.cb` is no row's shape once it is resolved (`instrShape`). -/
def Shape.loads (s : State) : Shape → List Word
  | .loadMem _ | .loadAHl _ | .aluMem _ | .incMem | .decMem | .rotMem _ | .bitMem _ | .resMem _ | .setMem _ => [s.hl]
  | .loadA x _ => [x.addr s]
  | .pop _ | .ret | .reti => [s.sp, s.sp + 1]
  | .retIf cc => if s.flags.cond cc then [s.sp, s.sp + 1] else []
  | _ => []

theorem stores_prefixCb (op : Byte) (s : State) : stores (.prefixCb op) s = (cbShape op).stores s := by
  have hstores : stores (.prefixCb op) s = if opZ op = 6 ∧ opX op ≠ 1 then [s.hl] else [] := rfl
  rw [hstores]
  unfold cbShape
  generalize opX op = x, opZ op = z
  fin_cases x <;> fin_cases z <;> rfl

theorem loads_prefixCb (op : Byte) (s : State) : loads (.prefixCb op) s = (cbShape op).loads s := by
  have hloads : loads (.prefixCb op) s = if opZ op = 6 then [s.hl] else [] := rfl
  rw [hloads]
  unfold cbShape
  generalize opX op = x, opZ op = z
  fin_cases x <;> fin_cases z <;> rfl

/-- The footprint's stores of an instruction are its shape's. -/
theorem stores_eq_shape (i : Instr) (s : State) : stores i s = (instrShape i).stores s := by
  cases i with
  | prefixCb op => exact stores_prefixCb op s
  | _ => rfl

/-- The footprint's loads of an instruction are its shape's. -/
theorem loads_eq_shape (i : Instr) (s : State) : loads i s = (instrShape i).loads s := by
  cases i with
  | prefixCb op => exact loads_prefixCb op s
  | _ => rfl

/-! ### The accesses of a shape -/

section
variable {s t : State}

theorem callIf_busReach {cc : Cond} {x : Word} (h : callIf cc x s = .next t) :
    s.BusReach [] (if s.flags.cond cc then [s.sp - 1, s.sp - 2] else []) t := by
  unfold callIf at h
  split at h <;> rename_i hcc <;> cases h
  · rw [if_pos hcc]
    exact .charge (.call .refl (by simp) (by simp))
  · exact .charge .refl

theorem returnIf_busReach {cc : Cond} (h : returnIf cc s = .next t) :
    s.BusReach (if s.flags.cond cc then [s.sp, s.sp + 1] else []) [] t := by
  unfold returnIf at h
  split at h <;> rename_i hcc <;> cases h
  · rw [if_pos hcc]
    exact .charge (.ret .refl (by simp) (by simp))
  · exact .charge .refl

theorem jumpIf_busReach {cc : Cond} {x : Word} {m n : Nat} (h : jumpIf cc x m n s = .next t) : s.BusReach [] [] t := by
  unfold jumpIf at h
  split at h <;> cases h <;> exact .keep .refl rfl

theorem execStop_busReach {n : Byte} (h : execStop n s = .next t) : s.BusReach [] [] t := by
  unfold execStop at h
  split at h <;> cases h <;> exact .keep .refl rfl

/-- A shape reads the addresses it loads from, writes those it stores to, and leaves the rest behind the bus. -/
theorem Shape.run_busReach {i : Instr} {h : Shape} (hn : h.Names i) (hr : h.run s = .next t) :
    s.BusReach (h.loads s) (h.stores s) t := by
  cases h with
  | cb op => exact hn.elim
  | jpIf cc x | jrIf cc x => exact jumpIf_busReach hr
  | callIf cc x => exact callIf_busReach hr
  | retIf cc => exact returnIf_busReach hr
  | stop => exact execStop_busReach (n := 0) hr
  | loadMem | loadA | loadAHl | aluMem | bitMem => cases hr; exact .keep (.read .refl List.mem_cons_self) (by simp)
  | storeReg | storeImm | storeA | storeAHl => cases hr; exact .keep (.write .refl List.mem_cons_self) rfl
  | incMem | decMem | rotMem | resMem | setMem =>
    cases hr; exact .keep (.write (.read .refl List.mem_cons_self) List.mem_cons_self) rfl
  | storeSp x => cases hr; exact .keep (.write (.write .refl List.mem_cons_self) (by simp [Shape.stores])) rfl
  | push => cases hr; exact .charge (.push16 .refl (by simp [Shape.stores]) (by simp [Shape.stores]))
  | call | rst => cases hr; exact .charge (.call .refl (by simp [Shape.stores]) (by simp [Shape.stores]))
  | pop => cases hr; exact .keep (.popped .refl (by simp [Shape.loads]) (by simp [Shape.loads])) (by simp)
  | ret => cases hr; exact .charge (.ret .refl (by simp [Shape.loads]) (by simp [Shape.loads]))
  | reti => cases hr; exact .keep (.ret .refl (by simp [Shape.loads]) (by simp [Shape.loads])) (by simp)
  | halt | di | ei => cases hr; exact .keep .refl rfl
  | _ => cases hr; exact .keep .refl (by simp)

end

/-- Settles O19: by the reads and writes an instruction is made of. -/
theorem onlyStoredBytesChange : Obligations.OnlyStoredBytesChange := by
  unfold Obligations.OnlyStoredBytesChange
  intro i s t hmem hexec
  rw [exec_eq_instrShape] at hexec
  have hreach : s.BusReach (loads i s) (stores i s) t := by
    rw [loads_eq_shape, stores_eq_shape]
    exact Shape.run_busReach (instrShape_names i) hexec
  exact ⟨fun k hst hld => hreach.read_untouched hmem hst hld, hreach.unwritten, hreach.answers_kept⟩

end Sys2Proof.Machine
end

section
/-! SUPPORT. Encoding and decoding (spec/30_encoding.md R302, R308 to R316): the row every opcode byte selects, said once over the fields of
the byte; from it both round trips, the illegal bytes, and the step as the instruction its fetched bytes decode to. -/

namespace Sys2Proof.Machine

/-! ### The row of an opcode byte -/

/-- The opcode byte with fields `x`, `y` and `z` (R302). -/
def opByte (x : Fin 4) (y z : Fin 8) : Byte := BitVec.ofNat 8 (64 * x + 8 * y + z)

theorem opByte_fields (op : Byte) : opByte (opX op) (opY op) (opZ op) = op := by
  revert op
  decide

/-- `i` is the canonical row of the instruction that starts with `op`, `b1`, `b2`: it has the length of R311, and its constructor is the one
`op` selects whatever the operands are. -/
structure IsRow (op b1 b2 : Byte) (i : Instr) : Prop where
  wellFormed : i.wellFormed = true
  encode_eq : encode i = [op, b1, b2].take (Spec.lengths.getD op.toNat 0)
  ctorIdx_eq : i.ctorIdx = (decodeBytes op 0 0).ctorIdx

/-- The unprefixed table by its fields (R310), 0xCB (`x = 3`, `z = 3`, `y = 1`) apart. The operand is a word, so that the decoder's
putting its two bytes together is undone before the split. -/
theorem decodeBytes_opByte_isRow {x : Fin 4} {y z : Fin 8} (h : opByte x y z ≠ 0xCB) (w : Word) :
    IsRow (opByte x y z) w.lo w.hi (decodeBytes (opByte x y z) w.lo w.hi) := by
  unfold decodeBytes decodeX0 decodeX3
  rw [Word_ofBytes_hi_lo w]
  fin_cases x
  pick_goal 4
  · -- `x = 3`
    fin_cases z
    pick_goal 4
    · -- `z = 3`, where `y = 1` is 0xCB
      fin_cases y
      pick_goal 2
      · exact absurd rfl h
      all_goals exact ⟨rfl, rfl, rfl⟩
    all_goals fin_cases y <;> exact ⟨rfl, rfl, rfl⟩
  all_goals fin_cases z <;> fin_cases y <;> exact ⟨rfl, rfl, rfl⟩

theorem decodeBytes_isRow {op : Byte} (h : op ≠ 0xCB) (b1 b2 : Byte) : IsRow op b1 b2 (decodeBytes op b1 b2) := by
  have hrow := decodeBytes_opByte_isRow (x := opX op) (y := opY op) (z := opZ op) (by rwa [opByte_fields]) (Word.ofBytes b2 b1)
  rwa [opByte_fields, Word_lo_ofBytes, Word_hi_ofBytes] at hrow

/-- The 0xCB table (R312). -/
theorem decodeCb_canonical (cb : Byte) : (decodeCb cb).wellFormed = true ∧ encode (decodeCb cb) = [0xCB, cb] := by
  revert cb
  decide

theorem decodeBytes_cb (cb b2 : Byte) : decodeBytes 0xCB cb b2 = decodeCb cb := rfl

/-- What any three bytes decode to is canonical, and encodes as those bytes up to the length of R311. -/
theorem decodeBytes_canonical (op b1 b2 : Byte) : (decodeBytes op b1 b2).wellFormed = true ∧
    encode (decodeBytes op b1 b2) = [op, b1, b2].take (Spec.lengths.getD op.toNat 0) := by
  by_cases hcb : op = 0xCB
  · subst hcb
    exact decodeCb_canonical b1
  · have hrow := decodeBytes_isRow hcb b1 b2
    exact ⟨hrow.wellFormed, hrow.encode_eq⟩

/-- Every length of R311 is 1, 2 or 3. -/
theorem lengths_bounds (op : Byte) : 1 ≤ Spec.lengths.getD op.toNat 0 ∧ Spec.lengths.getD op.toNat 0 ≤ 3 := by
  revert op
  decide

/-! ### The statements about encoding -/

/-- Settles O2, by the rows: one with a word operand gets it back from its two bytes, and the decoder reads every other one off its bytes. -/
theorem decodeReadsBackEncode : Obligations.DecodeReadsBackEncode := by
  unfold Obligations.DecodeReadsBackEncode
  intro i hwf rest
  cases i with
  | prefixCb op => exact absurd hwf Bool.false_ne_true
  | ldBcN16 w | ldDeN16 w | ldHlN16 w | ldSpN16 w | ldMemA16Sp w | ldMemA16A w | ldAMemA16 w | jpA16 w | jpNzA16 w | jpZA16 w | jpNcA16 w
    | jpCA16 w | callA16 w | callNzA16 w | callZA16 w | callNcA16 w | callCA16 w =>
    conv_rhs => rw [← Word_ofBytes_hi_lo w]
    rfl
  | _ => rfl

/-- Settles O3, by the row of the first byte, or of the byte after 0xCB. -/
theorem encodeWritesBackDecode : Obligations.EncodeWritesBackDecode :=
  ⟨decodeBytes_canonical, lengths_bounds, rfl⟩

/-- Settles O4: the row of an opcode byte has the constructor that the byte alone selects, and 0xCB looks at its second byte only. -/
theorem opcodeByteSelectsTheInstruction : Obligations.OpcodeByteSelectsTheInstruction := by
  unfold Obligations.OpcodeByteSelectsTheInstruction
  constructor
  · intro op b1 b2 c1 c2 hcb
    exact (decodeBytes_isRow hcb b1 b2).ctorIdx_eq.trans (decodeBytes_isRow hcb c1 c2).ctorIdx_eq.symm
  · intro cb b2 c2
    rw [decodeBytes_cb, decodeBytes_cb]

/-- Settles O1: each word is decoded. -/
theorem wordsOfTheSpecDecode : Obligations.WordsOfTheSpecDecode := by
  unfold Obligations.WordsOfTheSpecDecode
  decide

/-- Settles O16: an instruction is one of the shared operations, each of which answers a next state. -/
theorem everyInstructionAnswersNext : Obligations.EveryInstructionAnswersNext := by
  unfold Obligations.EveryInstructionAnswersNext
  intro i s
  obtain ⟨t, ht, -⟩ := exec_answers i s
  exact ⟨t, ht⟩

/-! ### The illegal bytes (R313, R806) -/

theorem exec_illegalByte {op : Byte} (h : op ∈ Spec.illegalBytes) (b1 b2 : Byte) (s : State) :
    exec (decodeBytes op b1 b2) s = illegal op s := by
  fin_cases h <;> rfl

theorem head_of_encode_decodeBytes {op b1 b2 op' : Byte} (h : encode (decodeBytes op b1 b2) = [op']) : op' = op := by
  obtain ⟨-, hencode⟩ := decodeBytes_canonical op b1 b2
  obtain ⟨n, hn⟩ := Nat.exists_eq_add_of_le' (lengths_bounds op).1
  rw [h, hn, List.take_succ_cons] at hencode
  exact (List.cons.inj hencode).1

/-- The fault IllegalOpcode comes from an instruction whose one byte is illegal, and names that byte (R806). -/
theorem ExecCase.illegalOpcode {i : Instr} {s t : State} {r : Byte} (h : ExecCase s i t) (hs : s.fault = none)
    (ht : t.fault = some (.illegalOpcode r)) : r ∈ Spec.illegalBytes ∧ encode i = [r] := by
  cases h with
  | data hd =>
    obtain ⟨-, -, -, hfault⟩ := hd.control
    simp [hfault, hs] at ht
  | di | ei | halt => simp [hs] at ht
  | reti => simp [State.returnFromInterrupt, hs] at ht
  | stop n => simp [State.raiseFault] at ht
  | illegal hop henc =>
    cases ht
    exact ⟨hop, henc⟩

/-- Settles O5: an illegal byte decodes to its row, which raises the fault, and only the row of an illegal byte raises it. -/
theorem illegalBytesRaiseIllegalOpcode : Obligations.IllegalBytesRaiseIllegalOpcode := by
  unfold Obligations.IllegalBytesRaiseIllegalOpcode
  constructor
  · intro op hop b1 b2 s
    exact exec_illegalByte hop b1 b2 s
  · intro op b1 b2 s t r hs hexec ht
    obtain ⟨hr, hencode⟩ := (exec_cases hexec).illegalOpcode hs ht
    have hrop : r = op := head_of_encode_decodeBytes hencode
    exact ⟨hrop ▸ hr, hrop⟩

/-! ### The step (R904, R905, R907) -/

/-- The statements' fetch is the model's. -/
theorem spec_fetch_eq (k : Nat) (s : State) : Spec.fetch k s = State.fetchBytes k s := by
  induction k generalizing s with
  | zero => rfl
  | succ k ih => simp only [Spec.fetch, ih]; rfl

theorem instrLength_eq_three {op : Byte} (h1 : instrLength op ≠ 1) (h2 : instrLength op ≠ 2) : instrLength op = 3 := by
  unfold instrLength at *
  split_ifs at * <;> trivial

/-- Bytes that decode with none left over are as many as the first one says, and decode to what `decodeBytes` gives for them. -/
theorem eq_of_decode_eq_ok_nil {bytes : List Byte} {i : Instr} (h : decode bytes = .ok i []) :
    bytes.length = instrLength (bytes.getD 0 0) ∧ decodeBytes (bytes.getD 0 0) (bytes.getD 1 0) (bytes.getD 2 0) = i := by
  cases bytes with
  | nil => cases h
  | cons op rest =>
    simp only [decode] at h
    split at h
    · next hlen => cases h; exact ⟨hlen.symm, rfl⟩
    · next hlen => cases h; exact ⟨hlen.symm, rfl⟩
    · next hne1 hne2 => cases h; exact ⟨(instrLength_eq_three hne1 hne2).symm, rfl⟩
    · cases h

/-- The bytes that decode to `i`, none left over, are those the machine fetches, and `i` is the instruction it runs. -/
theorem fetched_of_decode_fetch {s : State} {k : Nat} {i : Instr} (h : decode (Spec.fetch k s).1 = .ok i []) :
    s.fetched = i ∧ s.pastFetch = (Spec.fetch k s).2 := by
  rw [spec_fetch_eq] at h ⊢
  obtain ⟨hlen, hdecode⟩ := eq_of_decode_eq_ok_nil h
  cases k with
  | zero => cases h
  | succ k =>
    have hk : k + 1 = instrLength (s.read s.pc) := (State.fetchBytes_length _ s).symm.trans hlen
    rw [State.fetched, State.pastFetch, State.fetch, ← hk]
    exact ⟨hdecode, rfl⟩

/-- R905 in one update. -/
theorem State.bookkeeping_eq (t : State) :
    t.bookkeeping = { t with eiDelay := if t.eiDelay = 2 then 1 else 0, ime := t.ime || decide (t.eiDelay = 1) } := by
  unfold State.bookkeeping
  split
  · next h =>
    calc t = { t with eiDelay := 0 } := by rw [← h]
      _ = _ := by simp [h]
  · next h => simp [h]
  · next h => simp [h]

/-- Settles O7: the fetched bytes are those the machine fetches and runs, and what follows is by whether a fault was raised. -/
theorem stepRunsTheDecodedInstruction : Obligations.StepRunsTheDecodedInstruction := by
  unfold Obligations.StepRunsTheDecodedInstruction
  intro s t i k ⟨hfault, hhalted, hint⟩ hdecode hexec
  obtain ⟨hfetched, hpast⟩ := fetched_of_decode_fetch hdecode
  have hstep : step s = afterExec (.next t) := by
    rw [step_executes hfault hhalted hint.symm, hfetched, hpast, hexec]
  constructor
  · intro ht
    rw [hstep, ← State.bookkeeping_eq, afterExec, ht]
    rfl
  · intro ht
    rw [hstep, afterExec, if_pos (Option.isSome_iff_ne_none.mpr ht)]

end Sys2Proof.Machine
end

section
/-! SUPPORT. The 8-bit loads (spec/40_load8.md R400 to R418): the rows named by their operands have the bytes of R302 and R303 and the shapes
of the shared operations, and what a shape does is said once, over its operands. -/

namespace Sys2Proof.Machine

/-! ### Words and pairs as the statements write them -/

/-- The high page as a sum: 0xFF00 + n carries nothing out of the page. -/
theorem highPage_eq_add (n : Byte) : highPage n = 0xFF00 + n.setWidth 16 := by
  have hpage := Word_ofBytes_toNat 0xFF n
  unfold highPage
  bv_omega

/-- The model's write of a pair of the SP table is the statements'. -/
theorem State.setPairSp_eq_spec (s : State) (p : PairSp) (w : Word) : s.setPairSp p w = Spec.setPairSp s w p := by
  cases p with
  | bc | de | hl =>
    rw [Spec.setPairSp, ← Word_hi_eq_high, ← Word_lo_eq_low]
    rfl
  | sp => rfl

/-! ### The rows of registers and immediates (R400 to R404) -/

theorem encode_ldRegReg (r r' : Reg8) : encode (.ldRegReg r r') = [0x40 + 8 * Spec.regCode r + Spec.regCode r'] := by
  cases r <;> cases r' <;> rfl

theorem encode_ldRegImm (r : Reg8) (n : Byte) : encode (.ldRegImm r n) = [0x06 + 8 * Spec.regCode r, n] := by
  cases r <;> rfl

theorem encode_ldRegMemHl (r : Reg8) : encode (.ldRegMemHl r) = [0x46 + 8 * Spec.regCode r] := by
  cases r <;> rfl

theorem encode_ldMemHlReg (r : Reg8) : encode (.ldMemHlReg r) = [0x70 + Spec.regCode r] := by
  cases r <;> rfl

theorem shape_ldRegReg (r r' : Reg8) : shape (.ldRegReg r r') = .loadReg r r' := by
  cases r <;> cases r' <;> rfl

theorem shape_ldRegImm (r : Reg8) (n : Byte) : shape (.ldRegImm r n) = .loadImm r n := by
  cases r <;> rfl

theorem shape_ldRegMemHl (r : Reg8) : shape (.ldRegMemHl r) = .loadMem r := by
  cases r <;> rfl

theorem shape_ldMemHlReg (r : Reg8) : shape (.ldMemHlReg r) = .storeReg r := by
  cases r <;> rfl

/-! ### What a row does, by its shape -/

theorem exec_of_shape {i : Instr} {h : Shape} (hi : shape i = h) (s : State) : exec i s = h.run s := by
  rw [exec_eq_shape, hi]

section
variable {i : Instr} {s : State}

/-- A load of A from the address `y` that the row's address form names (R405, R406, R409, R411, R413). -/
theorem exec_loadA {x : AddrForm} {n : Nat} (hi : shape i = .loadA x n) {y : Word} (hx : x.addr s = y) :
    exec i s = .next { s.afterRead y with a := s.read y, cost := some n } := by
  rw [exec_of_shape hi, Shape.run, hx]
  rfl

/-- A store of A to the address `y` that the row's address form names (R407, R408, R410, R412, R414). -/
theorem exec_storeA {x : AddrForm} {n : Nat} (hi : shape i = .storeA x n) {y : Word} (hx : x.addr s = y) :
    exec i s = .next { s.write y s.a with cost := some n } := by
  rw [exec_of_shape hi, Shape.run, hx]
  rfl

/-- A store of A at the old HL, then HL moved by `delta` to `y` (R415, R416). -/
theorem exec_storeAHl {delta : Word} (hi : shape i = .storeAHl delta) {y : Word} (hy : s.hl + delta = y) :
    exec i s = .next { Spec.setPairSp (s.write s.hl s.a) y .hl with cost := some 8 } := by
  rw [exec_of_shape hi, ← State.setPairSp_eq_spec, ← hy]
  rfl

/-- A load of A from the old HL, then HL moved by `delta` to `y` (R417, R418). -/
theorem exec_loadAHl {delta : Word} (hi : shape i = .loadAHl delta) {y : Word} (hy : s.hl + delta = y) :
    exec i s = .next { Spec.setPairSp (s.afterRead s.hl) y .hl with a := s.read s.hl, cost := some 8 } := by
  rw [exec_of_shape hi, ← State.setPairSp_eq_spec, ← hy]
  rfl

end

/-! ### The statements -/

/-- Settles O22: both rows by their registers, with the bytes and the shape those give. -/
theorem loadRegisterResult : Obligations.LoadRegisterResult := by
  unfold Obligations.LoadRegisterResult
  intro r r' n s
  exact ⟨encode_ldRegReg r r', exec_of_shape (shape_ldRegReg r r') s, encode_ldRegImm r n, exec_of_shape (shape_ldRegImm r n) s⟩

/-- Settles O23: the rows by their register, and the one row that stores an immediate. -/
theorem loadStoreAtHlResult : Obligations.LoadStoreAtHlResult := by
  unfold Obligations.LoadStoreAtHlResult
  intro r n s
  exact ⟨encode_ldRegMemHl r, exec_of_shape (shape_ldRegMemHl r) s, encode_ldMemHlReg r, exec_of_shape (shape_ldMemHlReg r) s,
    rfl, exec_of_shape (i := .ldMemHlN8 n) rfl s⟩

/-- Settles O24: each row is a load or a store of A at the address its form names. -/
theorem loadStoreAResult : Obligations.LoadStoreAResult := by
  unfold Obligations.LoadStoreAResult
  intro x n s
  have hn := highPage_eq_add n
  have hc := highPage_eq_add s.c
  rw [← Word_lo_eq_low, ← Word_hi_eq_high]
  exact ⟨⟨rfl, exec_loadA (x := .bc) rfl rfl⟩, ⟨rfl, exec_loadA (x := .de) rfl rfl⟩,
    ⟨rfl, exec_storeA (x := .bc) rfl rfl⟩, ⟨rfl, exec_storeA (x := .de) rfl rfl⟩,
    ⟨rfl, exec_loadA (x := .imm x) rfl rfl⟩, ⟨rfl, exec_storeA (x := .imm x) rfl rfl⟩,
    ⟨rfl, exec_loadA (x := .high n) rfl hn⟩, ⟨rfl, exec_storeA (x := .high n) rfl hn⟩,
    ⟨rfl, exec_loadA (x := .highC) rfl hc⟩, ⟨rfl, exec_storeA (x := .highC) rfl hc⟩⟩

/-- Settles O25: each row moves HL by 1 or by -1, which is subtracting 1. -/
theorem loadStoreAndMoveHlResult : Obligations.LoadStoreAndMoveHlResult := by
  unfold Obligations.LoadStoreAndMoveHlResult
  intro s
  have hinc : s.hl + 1 = (s.h ++ s.l : Word) + 1 := rfl
  have hdec : s.hl + (-1) = (s.h ++ s.l : Word) - 1 := (BitVec.sub_eq_add_neg s.hl 1).symm
  exact ⟨⟨rfl, exec_storeAHl rfl hinc⟩, ⟨rfl, exec_storeAHl rfl hdec⟩, ⟨rfl, exec_loadAHl rfl hinc⟩, ⟨rfl, exec_loadAHl rfl hdec⟩⟩

end Sys2Proof.Machine
end

section
/-! SUPPORT. The 16-bit loads, the stack transfers, and SP plus a displacement (spec/41_load16.md R450 to R456, spec/43_alu16.md R603, R604):
what a push stored is what a pop returns, and the model's pushes, pops, flag bytes and sums are the statements'. -/

namespace Sys2Proof.Machine

/-! ### A push and the pop after it (R210, R211) -/

/-- The value a pop returns where the read of its first byte changes nothing behind the bus. -/
theorem State.popValue_of_ne_scripted {s : State} (h : owner s.params s.sp ≠ .scripted) :
    s.popValue = Word.ofBytes (s.read (s.sp + 1)) (s.read s.sp) := by
  rw [State.popValue, State.read16, State.afterRead_of_ne h]

theorem owner_ne_scripted_of_plain {p : Params} {x : Word} (h : Spec.plain p x) : owner p x ≠ .scripted := by
  rcases h with h | h | h | h | h <;> rw [h] <;> exact nofun

/-- A stack whose next two bytes are plain memory, and not one byte under two names. -/
structure State.PlainStack (s : State) : Prop where
  memOk : s.memOk = true
  high : Spec.plain s.params (s.sp - 1)
  low : Spec.plain s.params (s.sp - 2)
  distinct : resolve s.params (s.sp - 1) ≠ resolve s.params (s.sp - 2)

section
variable {s : State} (h : s.PlainStack) (v : Word)
include h

/-- The high byte, stored first, is left by the store of the low byte. -/
theorem State.PlainStack.read_push16_high : (s.push16 v).read (s.sp - 1) = v.hi := by
  obtain ⟨hread, -, -⟩ := readAfterWrite s (s.sp - 1) v.hi h.memOk
  obtain ⟨-, hother, -⟩ := readAfterWrite (s.write (s.sp - 1) v.hi) (s.sp - 2) v.lo (State.write_memOk h.memOk _ _)
  rw [State.write_params] at hother
  rw [State.push16_eq, State.setSp_read, hother h.low _ h.distinct, hread h.high]

theorem State.PlainStack.read_push16_low : (s.push16 v).read (s.sp - 2) = v.lo := by
  obtain ⟨hread, -, -⟩ := readAfterWrite (s.write (s.sp - 1) v.hi) (s.sp - 2) v.lo (State.write_memOk h.memOk _ _)
  rw [State.write_params] at hread
  rw [State.push16_eq, State.setSp_read, hread h.low]

/-- A pop returns the value pushed before it, whatever the push was charged. -/
theorem State.PlainStack.popValue_push16_charge (n : Nat) : ((s.push16 v).charge n).popValue = v := by
  have hsp : s.sp - 2 + 1 = s.sp - 1 := by bv_omega
  have hquiet : owner s.params (s.sp - 2) ≠ .scripted := owner_ne_scripted_of_plain h.low
  rw [State.popValue_of_ne_scripted (by simpa using hquiet), State.charge_read, State.charge_read, State.charge_sp, State.push16_sp, hsp,
    h.read_push16_high, h.read_push16_low, Word_ofBytes_hi_lo]

end

/-! ### Pairs of the AF table, the stack and the flags as the statements write them -/

theorem State.pairAf_eq_spec (s : State) (p : PairAf) : s.pairAf p = Spec.pairAf s p := by
  cases p <;> rfl

/-- The model's write of a pair of the AF table is the statements'. -/
theorem State.setPairAf_eq_spec (s : State) (p : PairAf) (w : Word) : s.setPairAf p w = Spec.setPairAf s w p := by
  cases p <;> rw [Spec.setPairAf, ← Word_hi_eq_high, ← Word_lo_eq_low] <;> rfl

/-- A pair reads back as it was written, F without its low nibble (R105, R455). -/
theorem State.pairAf_setPairAf (s : State) (p : PairAf) (w : Word) :
    (s.setPairAf p w).pairAf p = if p = .af then w &&& 0xFFF0 else w := by
  obtain ⟨-, ⟨hbc, hde, hhl, haf⟩, -⟩ := pairsAliasRegisters s w
  cases p with
  | bc => exact hbc
  | de => exact hde
  | hl => exact hhl
  | af => exact haf

theorem State.push16_eq_spec (s : State) (v : Word) : s.push16 v = Spec.pushed s v := by
  have hsp : s.sp - 1 - 1 = s.sp - 2 := by bv_omega
  rw [Spec.pushed, ← Word_hi_eq_high, ← Word_lo_eq_low]
  simp only [State.write_sp, hsp]
  rfl

/-- The byte of four flags (R104). -/
theorem Flags.byte_eq_spec (fl : Flags) : fl.byte = Spec.flagByte fl.z fl.n fl.h fl.c := by
  obtain ⟨z, n, h, c⟩ := fl
  revert z n h c
  decide

/-- A write of the flags is a write of their byte: its low nibble is 0 already. -/
theorem State.setFlags_eq_spec (s : State) (fl : Flags) : s.setFlags fl = { s with f := Spec.flagByte fl.z fl.n fl.h fl.c } := by
  rw [State.setFlags, State.setF, ← Flags.byte_eq_spec]
  congr 1
  exact Flags.byte_mask fl

/-! ### SP plus a displacement (R603) -/

theorem spe8_value (sp : Word) (e : Byte) : (spe8 sp e).1 = Spec.spPlus sp e := by
  rw [Spec.spPlus, BitVec.ofInt_add, BitVec.ofInt_natCast, BitVec.ofNat_toNat, BitVec.setWidth_eq]
  rfl

theorem toNat_low (w : Word) : (Spec.low w).toNat = w.toNat % 256 := by
  simp [Spec.low]

/-- The half carry and the carry are those of the low bytes' unsigned sum (R603, C5). -/
theorem spe8_flags (sp : Word) (e : Byte) : (spe8 sp e).2 =
    { z := false, n := false, h := Spec.carryAt 4 (Spec.low sp) e false, c := Spec.carryAt 8 (Spec.low sp) e false } := by
  have he := e.isLt
  simp only [spe8, Spec.carryAt, toNat_low, Bool.toNat_false, Flags.mk.injEq, decide_eq_decide, true_and]
  constructor <;> omega

theorem State.setFlags_spe8 (s : State) (sp : Word) (e : Byte) : s.setFlags (spe8 sp e).2 = { s with f := Spec.spPlusF sp e } := by
  rw [State.setFlags_eq_spec, spe8_flags]
  rfl

/-! ### The rows of pairs -/

theorem encode_ldPairImm (p : PairSp) (n : Word) :
    encode (.ldPairImm p n) = [0x01 + 16 * Spec.pairSpCode p, Spec.low n, Spec.high n] := by
  rw [← Word_lo_eq_low, ← Word_hi_eq_high]
  cases p <;> rfl

theorem encode_pushPair (p : PairAf) : encode (.pushPair p) = [0xC5 + 16 * Spec.pairAfCode p] := by
  cases p <;> rfl

theorem encode_popPair (p : PairAf) : encode (.popPair p) = [0xC1 + 16 * Spec.pairAfCode p] := by
  cases p <;> rfl

theorem shape_ldPairImm (p : PairSp) (n : Word) : shape (.ldPairImm p n) = .loadPair p n := by
  cases p <;> rfl

theorem shape_pushPair (p : PairAf) : shape (.pushPair p) = .push p := by
  cases p <;> rfl

theorem shape_popPair (p : PairAf) : shape (.popPair p) = .pop p := by
  cases p <;> rfl

theorem exec_ldPairImm (p : PairSp) (n : Word) (s : State) : exec (.ldPairImm p n) s = .next ((s.setPairSp p n).charge 12) :=
  exec_of_shape (shape_ldPairImm p n) s

theorem exec_pushPair (p : PairAf) (s : State) : exec (.pushPair p) s = .next ((s.push16 (s.pairAf p)).charge 16) :=
  exec_of_shape (shape_pushPair p) s

theorem exec_popPair (p : PairAf) (s : State) : exec (.popPair p) s = .next ((s.popped.setPairAf p s.popValue).charge 12) :=
  exec_of_shape (shape_popPair p) s

/-! ### The rows without a pair -/

theorem exec_ldMemA16Sp (x : Word) (s : State) :
    exec (.ldMemA16Sp x) s = .next { (s.write x (Spec.low s.sp)).write (x + 1) (Spec.high s.sp) with cost := some 20 } := by
  rw [exec_of_shape (h := .storeSp x) rfl, ← Word_lo_eq_low, ← Word_hi_eq_high]
  rfl

theorem exec_ldHlSpE8 (e : Byte) (s : State) : exec (.ldHlSpE8 e) s =
    .next { Spec.setPairSp s (Spec.spPlus s.sp e) .hl with f := Spec.spPlusF s.sp e, cost := some 12 } := by
  rw [exec_of_shape (h := .hlSp e) rfl, Shape.run, execLdHlSpE8, State.setFlags_spe8, spe8_value, ← State.setPairSp_eq_spec]
  rfl

theorem exec_addSpE8 (e : Byte) (s : State) :
    exec (.addSpE8 e) s = .next { s with sp := Spec.spPlus s.sp e, f := Spec.spPlusF s.sp e, cost := some 16 } := by
  rw [exec_of_shape (h := .addSp e) rfl, Shape.run, execAddSpE8, State.setFlags_spe8, spe8_value]
  rfl

/-! ### The statements -/

/-- Settles O47: the pop returns the value pushed, and the pair it is written to reads it back. -/
theorem popGivesBackWhatWasPushed : Obligations.PopGivesBackWhatWasPushed := by
  unfold Obligations.PopGivesBackWhatWasPushed
  intro p q s hmem hhigh hlow hne
  have hvalue := State.PlainStack.popValue_push16_charge ⟨hmem, hhigh, hlow, hne⟩ (s.pairAf p) 16
  refine ⟨_, _, exec_pushPair p s, exec_popPair q _, ?_, ?_⟩
  · rw [State.charge_sp, State.setPairAf_sp, State.popped_sp, State.charge_sp, State.push16_sp, BitVec.sub_add_cancel]
  · rw [hvalue, ← State.pairAf_eq_spec s p]
    exact (State.pairAf_eq_spec _ q).symm.trans (State.pairAf_setPairAf _ q (s.pairAf p))

/-- Settles O26: the pair's row by its pair, the two other rows by what each stores or loads. -/
theorem loadPairResult : Obligations.LoadPairResult := by
  unfold Obligations.LoadPairResult
  intro p n s
  refine ⟨⟨encode_ldPairImm p n, ?_⟩, ⟨?_, exec_ldMemA16Sp n s⟩, rfl, exec_of_shape (h := .spHl) rfl s⟩
  · rw [exec_ldPairImm, State.setPairSp_eq_spec]
    rfl
  · rw [← Word_lo_eq_low, ← Word_hi_eq_high]
    rfl

/-- Settles O27: the rows by their pair, with the statements' push, pop and pairs. -/
theorem pushPopResult : Obligations.PushPopResult := by
  unfold Obligations.PushPopResult
  intro p s
  refine ⟨encode_pushPair p, ?_, encode_popPair p, ?_⟩
  · rw [exec_pushPair, State.push16_eq_spec, State.pairAf_eq_spec]
    rfl
  · rw [exec_popPair, State.setPairAf_eq_spec]
    rfl

/-- Settles O28: both rows by the value and the flags of `spe8`. -/
theorem spPlusDisplacementResult : Obligations.SpPlusDisplacementResult := by
  unfold Obligations.SpPlusDisplacementResult
  intro e s
  exact ⟨⟨rfl, exec_ldHlSpE8 e s⟩, ⟨rfl, exec_addSpE8 e s⟩⟩

end Sys2Proof.Machine
end

section
/-! SUPPORT. 8-bit arithmetic and logic (spec/42_alu8.md R500 to R553): the model's sums, differences, increments and DAA are the
statements', a row does what its shape does with them, and after an addition or a subtraction of packed BCD bytes DAA corrects each
decimal digit that left its range. -/

namespace Sys2Proof.Machine

/-! ### The eight operations as the statements write them (R500 to R502) -/

/-- A sum with its carries out of bits 3 and 7 (R500). -/
theorem add8_eq_spec (a b : Byte) (cin : Bool) : add8 a b cin = (a + b + (if cin then 1 else 0),
    { z := a + b + (if cin then 1 else 0) == 0, n := false, h := Spec.carryAt 4 a b cin, c := Spec.carryAt 8 a b cin }) := by
  have ha := a.isLt
  have hb := b.isLt
  have hsum : BitVec.ofNat 8 (a.toNat + b.toNat + cin.toNat) = a + b + (if cin then 1 else 0) := by
    cases cin <;> simp [BitVec.ofNat_add]
  simp only [add8, hsum, Spec.carryAt, Prod.mk.injEq, Flags.mk.injEq, decide_eq_decide, true_and]
  constructor <;> omega

/-- A difference with its borrows into bit 4 and out of bit 7 (R501). -/
theorem sub8_eq_spec (a b : Byte) (cin : Bool) : sub8 a b cin = (a - b - (if cin then 1 else 0),
    { z := a - b - (if cin then 1 else 0) == 0, n := true, h := Spec.borrowAt 4 a b cin, c := Spec.borrowAt 8 a b cin }) := by
  have ha := a.isLt
  have hb := b.isLt
  have hdiff : BitVec.ofInt 8 ((a.toNat : Int) - b.toNat - cin.toNat) = a - b - (if cin then 1 else 0) := by
    cases cin <;> simp [Int.sub_eq_add_neg, BitVec.ofInt_add, BitVec.ofInt_neg, BitVec.sub_eq_add_neg]
  simp only [sub8, hdiff, Spec.borrowAt, Prod.mk.injEq, Flags.mk.injEq, decide_eq_decide, true_and]
  constructor <;> omega

theorem alu8_value (op : AluOp) (a b : Byte) (c : Bool) : (alu8 op a b c).1 = Spec.aluA op a b c := by
  cases op with
  | add => simp [alu8, add8_eq_spec, Spec.aluA]
  | sub => simp [alu8, sub8_eq_spec, Spec.aluA]
  | adc => rw [alu8, add8_eq_spec]; rfl
  | sbc => rw [alu8, sub8_eq_spec]; rfl
  | and | xor | or | cp => rfl

/-- The flags' byte; after a subtraction or XOR the result is zero exactly when the operands are equal. -/
theorem alu8_flags (op : AluOp) (a b : Byte) (c : Bool) : (alu8 op a b c).2.byte = Spec.aluF op a b c := by
  rw [Flags.byte_eq_spec]
  cases op with
  | add => simp [alu8, add8_eq_spec, Spec.aluF]
  | sub | cp =>
    have hz : (a - b == 0) = (a == b) := beq_eq_beq.2 sub_eq_zero
    simp [alu8, sub8_eq_spec, Spec.aluF, ← hz]
  | adc => rw [alu8, add8_eq_spec]; rfl
  | sbc => rw [alu8, sub8_eq_spec]; rfl
  | and | or => rfl
  | xor =>
    have hz : (a ^^^ b == 0) = (a == b) := beq_eq_beq.2 BitVec.xor_eq_zero_iff
    simp only [alu8, xor8, Spec.aluF, hz]

/-- A write of A and the flags is a write of A and of the flags' byte. -/
theorem State.setAFlags_eq (s : State) (r : Byte × Flags) : s.setAFlags r = { s with a := r.1, f := r.2.byte } := by
  rw [State.setAFlags, State.setFlags_eq_spec, ← Flags.byte_eq_spec]

theorem State.setAFlags_alu8 (s : State) (op : AluOp) (b : Byte) (n : Nat) :
    (s.setAFlags (alu8 op s.a b s.flags.c)).charge n = Spec.aluState op b n s := by
  rw [State.setAFlags_eq, alu8_value, alu8_flags]
  rfl

/-! ### Increment, decrement and the adjustments (R540 to R551) -/

theorem toNat_and_low_nibble (v : Byte) : (v &&& 0x0F).toNat = v.toNat % 16 := Nat.and_two_pow_sub_one_eq_mod v.toNat 4

/-- The result is zero exactly at 0xFF, the half carry at a low nibble of 0xF (R540). -/
theorem inc8_eq_spec (v : Byte) (fl : Flags) :
    inc8 v fl = (v + 1, { z := v == 0xFF, n := false, h := v &&& 0x0F == 0x0F, c := fl.c }) := by
  have hlow := toNat_and_low_nibble v
  simp only [inc8, Prod.mk.injEq, Flags.mk.injEq, beq_eq_beq, true_and, and_true]
  constructor <;> bv_omega

/-- The result is zero exactly at 0x01, the half borrow at a low nibble of 0 (R542). -/
theorem dec8_eq_spec (v : Byte) (fl : Flags) :
    dec8 v fl = (v - 1, { z := v == 0x01, n := true, h := v &&& 0x0F == 0x00, c := fl.c }) := by
  have hlow := toNat_and_low_nibble v
  simp only [dec8, Prod.mk.injEq, Flags.mk.injEq, beq_eq_beq, true_and, and_true]
  constructor <;> bv_omega

/-- The corrections of R550 as the model selects them: after a subtraction the value tests drop out, and C is kept. -/
theorem daaFix_eq (a : Byte) (n h c : Bool) : Spec.daaFix a n h c =
    ((if c || (!n && decide (a.toNat > 0x99)) then 0x60 else 0) ||| (if h || (!n && decide (a.toNat % 16 > 9)) then 0x06 else 0),
      c || (!n && decide (a.toNat > 0x99))) := by
  cases n with
  | true => simp [Spec.daaFix]
  | false =>
    have hhigh : (c || decide (a.toNat > 0x99)) = decide (c = true ∨ a.toNat > 0x99) := by simp
    have hlow : (h || decide (a.toNat % 16 > 9)) = decide (h = true ∨ a.toNat % 16 > 9) := by simp
    simp only [Spec.daaFix, Bool.not_false, Bool.true_and, hhigh, hlow, decide_eq_true_eq, if_true]
    split_ifs <;> simp_all

theorem daa8_eq_spec (a : Byte) (fl : Flags) : daa8 a fl = (Spec.daaA a fl.n fl.h fl.c,
    { z := Spec.daaA a fl.n fl.h fl.c == 0, n := fl.n, h := false, c := (Spec.daaFix a fl.n fl.h fl.c).2 }) := by
  obtain ⟨z, n, h, c⟩ := fl
  simp only [daa8, Spec.daaA, daaFix_eq]
  cases n <;> rfl

/-! ### The rows by their operands -/

theorem encode_aluReg (op : AluOp) (r : Reg8) : encode (.aluReg op r) = [0x80 + 8 * Spec.aluCode op + Spec.regCode r] := by
  cases op <;> cases r <;> rfl

theorem encode_aluMemHl (op : AluOp) : encode (.aluMemHl op) = [0x86 + 8 * Spec.aluCode op] := by
  cases op <;> rfl

theorem encode_aluImm (op : AluOp) (n : Byte) : encode (.aluImm op n) = [0xC6 + 8 * Spec.aluCode op, n] := by
  cases op <;> rfl

theorem encode_incReg (r : Reg8) : encode (.incReg r) = [0x04 + 8 * Spec.regCode r] := by
  cases r <;> rfl

theorem encode_decReg (r : Reg8) : encode (.decReg r) = [0x05 + 8 * Spec.regCode r] := by
  cases r <;> rfl

theorem shape_aluReg (op : AluOp) (r : Reg8) : shape (.aluReg op r) = .aluReg op r := by
  cases op <;> cases r <;> rfl

theorem shape_aluMemHl (op : AluOp) : shape (.aluMemHl op) = .aluMem op := by
  cases op <;> rfl

theorem shape_aluImm (op : AluOp) (n : Byte) : shape (.aluImm op n) = .aluImm op n := by
  cases op <;> rfl

theorem shape_incReg (r : Reg8) : shape (.incReg r) = .incReg r := by
  cases r <;> rfl

theorem shape_decReg (r : Reg8) : shape (.decReg r) = .decReg r := by
  cases r <;> rfl

theorem exec_aluReg (op : AluOp) (r : Reg8) (s : State) : exec (.aluReg op r) s = .next (Spec.aluState op (s.reg r) 4 s) := by
  rw [exec_of_shape (shape_aluReg op r), Shape.run, aluReg, State.setAFlags_alu8]

/-- The operand is read before A and the flags are written, and the read leaves both. -/
theorem exec_aluMemHl (op : AluOp) (s : State) :
    exec (.aluMemHl op) s = .next (Spec.aluState op (s.read s.hl) 8 (s.afterRead s.hl)) := by
  have hflags : (s.afterRead s.hl).flags = s.flags := by simp [State.flags]
  rw [exec_of_shape (shape_aluMemHl op), Shape.run, aluMemHl, ← State.setAFlags_alu8, State.afterRead_a, hflags]

theorem exec_aluImm (op : AluOp) (n : Byte) (s : State) : exec (.aluImm op n) s = .next (Spec.aluState op n 8 s) := by
  rw [exec_of_shape (shape_aluImm op n), Shape.run, aluImm, State.setAFlags_alu8]

theorem exec_incReg (r : Reg8) (s : State) : exec (.incReg r) s = .next { s.setReg r (s.reg r + 1) with
    f := Spec.flagByte (s.reg r == 0xFF) false (s.reg r &&& 0x0F == 0x0F) (Spec.cf s), cost := some 4 } := by
  rw [exec_of_shape (shape_incReg r), Shape.run, incReg, inc8_eq_spec, State.setFlags_eq_spec]
  rfl

theorem exec_decReg (r : Reg8) (s : State) : exec (.decReg r) s = .next { s.setReg r (s.reg r - 1) with
    f := Spec.flagByte (s.reg r == 0x01) true (s.reg r &&& 0x0F == 0x00) (Spec.cf s), cost := some 4 } := by
  rw [exec_of_shape (shape_decReg r), Shape.run, decReg, dec8_eq_spec, State.setFlags_eq_spec]
  rfl

theorem exec_incMemHl (s : State) : exec .incMemHl s = .next { (s.afterRead s.hl).write s.hl (s.read s.hl + 1) with
    f := Spec.flagByte (s.read s.hl == 0xFF) false (s.read s.hl &&& 0x0F == 0x0F) (Spec.cf s), cost := some 12 } := by
  rw [exec_of_shape (h := .incMem) rfl, Shape.run, execIncMemHl, inc8_eq_spec, State.setFlags_eq_spec]
  rfl

theorem exec_decMemHl (s : State) : exec .decMemHl s = .next { (s.afterRead s.hl).write s.hl (s.read s.hl - 1) with
    f := Spec.flagByte (s.read s.hl == 0x01) true (s.read s.hl &&& 0x0F == 0x00) (Spec.cf s), cost := some 12 } := by
  rw [exec_of_shape (h := .decMem) rfl, Shape.run, execDecMemHl, dec8_eq_spec, State.setFlags_eq_spec]
  rfl

theorem exec_daa (s : State) : exec .daa s = .next ((s.setAFlags (daa8 s.a s.flags)).charge 4) :=
  exec_of_shape (h := .daa) rfl s

theorem exec_cpl (s : State) :
    exec .cpl s = .next { s with a := 0xFF - s.a, f := Spec.flagByte (Spec.zf s) true true (Spec.cf s), cost := some 4 } := by
  have hnot : ~~~s.a = 0xFF - s.a := (BitVec.allOnes_sub_eq_not s.a).symm
  rw [exec_of_shape (h := .cpl) rfl, Shape.run, execCpl, State.setAFlags_eq, Flags.byte_eq_spec, hnot]
  rfl

theorem exec_scf (s : State) :
    exec .scf s = .next { s with f := Spec.flagByte (Spec.zf s) false false true, cost := some 4 } := by
  rw [exec_of_shape (h := .scf) rfl, Shape.run, execScf, State.setFlags_eq_spec]
  rfl

theorem exec_ccf (s : State) :
    exec .ccf s = .next { s with f := Spec.flagByte (Spec.zf s) false false (!Spec.cf s), cost := some 4 } := by
  rw [exec_of_shape (h := .ccf) rfl, Shape.run, execCcf, State.setFlags_eq_spec]
  rfl

/-! ### DAA after an operation on packed BCD (R550) -/

theorem toNat_bcd {n : Nat} (h : n < 100) : (Spec.bcd n).toNat = n / 10 * 16 + n % 10 := by
  rw [Spec.bcd, BitVec.toNat_ofNat]
  omega

/-- The correction of DAA, 0x60 for the high digit and 0x06 for the low one, as a sum. -/
theorem toNat_daaCorrection (high low : Bool) :
    ((if high then (0x60 : Byte) else 0) ||| (if low then 0x06 else 0)).toNat =
      (if high then 96 else 0) + (if low then 6 else 0) := by
  revert high low
  decide

/-- DAA of what an operation left in A and in the flags. -/
def adjusted (r : Byte × Flags) : Byte × Flags := daa8 r.1 r.2

section
variable {r : Byte × Flags}

/-- DAA where N is clear, by the two corrections its tests select. -/
theorem adjusted_of_not_n (hn : r.2.n = false) {high low : Bool} (hhigh : high = (r.2.c || decide (r.1.toNat > 0x99)))
    (hlow : low = (r.2.h || decide (r.1.toNat % 16 > 9))) :
    (adjusted r).1.toNat = (r.1.toNat + ((if high then 96 else 0) + (if low then 6 else 0))) % 256 ∧ (adjusted r).2.c = high := by
  subst hhigh hlow
  simp only [adjusted, daa8, hn, Bool.not_false, Bool.true_and, Bool.false_eq_true, if_false, BitVec.toNat_add, toNat_daaCorrection,
    and_self]

/-- DAA where N is set: H and C alone select the corrections. -/
theorem adjusted_of_n (hn : r.2.n = true) :
    (adjusted r).1.toNat = (256 - ((if r.2.c then 96 else 0) + (if r.2.h then 6 else 0)) + r.1.toNat) % 256 ∧
      (adjusted r).2.c = r.2.c := by
  simp only [adjusted, daa8, hn, Bool.not_true, Bool.false_and, Bool.or_false, if_true, BitVec.toNat_sub, toNat_daaCorrection, and_self]

end

section
variable {x y : Nat} (hx : x < 100) (hy : y < 100) (c : Bool)
include hx hy

/-- After an addition DAA corrects the low digit where the digits' sum passed 9, and the high digit where the decimal sum passed 99. -/
theorem adjusted_add8_bcd : (adjusted (add8 (Spec.bcd x) (Spec.bcd y) c)).1 = Spec.bcd ((x + y + c.toNat) % 100) ∧
    (adjusted (add8 (Spec.bcd x) (Spec.bcd y) c)).2.c = decide (x + y + c.toNat ≥ 100) := by
  have hxb := toNat_bcd hx
  have hyb := toNat_bcd hy
  have hcin := c.toNat_le
  have hsum : (add8 (Spec.bcd x) (Spec.bcd y) c).1.toNat = ((Spec.bcd x).toNat + (Spec.bcd y).toNat + c.toNat) % 256 :=
    BitVec.toNat_ofNat ..
  have hhigh : decide (x + y + c.toNat ≥ 100) =
      ((add8 (Spec.bcd x) (Spec.bcd y) c).2.c || decide ((add8 (Spec.bcd x) (Spec.bcd y) c).1.toNat > 0x99)) := by
    rw [hsum, add8, ← Bool.decide_or, decide_eq_decide]
    omega
  have hlow : decide (x % 10 + y % 10 + c.toNat > 9) =
      ((add8 (Spec.bcd x) (Spec.bcd y) c).2.h || decide ((add8 (Spec.bcd x) (Spec.bcd y) c).1.toNat % 16 > 9)) := by
    rw [hsum, add8, ← Bool.decide_or, decide_eq_decide]
    omega
  obtain ⟨hvalue, hcarry⟩ := adjusted_of_not_n rfl hhigh hlow
  refine ⟨BitVec.eq_of_toNat_eq ?_, hcarry⟩
  rw [hvalue, hsum, toNat_bcd (Nat.mod_lt _ (by decide))]
  simp only [decide_eq_true_eq]
  split_ifs <;> omega

/-- After a subtraction DAA corrects the low digit where it borrowed, and the high digit where the decimal difference did. -/
theorem adjusted_sub8_bcd : (adjusted (sub8 (Spec.bcd x) (Spec.bcd y) c)).1 = Spec.bcd ((x + 200 - y - c.toNat) % 100) ∧
    (adjusted (sub8 (Spec.bcd x) (Spec.bcd y) c)).2.c = decide (x < y + c.toNat) := by
  have hxb := toNat_bcd hx
  have hyb := toNat_bcd hy
  have hcin := c.toNat_le
  have hdiff : (sub8 (Spec.bcd x) (Spec.bcd y) c).1.toNat = (256 + (Spec.bcd x).toNat - (Spec.bcd y).toNat - c.toNat) % 256 := by
    rw [sub8, BitVec.toNat_ofInt]
    omega
  have hhigh : (sub8 (Spec.bcd x) (Spec.bcd y) c).2.c = decide (x < y + c.toNat) := by
    rw [sub8, decide_eq_decide]
    omega
  have hlow : (sub8 (Spec.bcd x) (Spec.bcd y) c).2.h = decide (x % 10 < y % 10 + c.toNat) := by
    rw [sub8, decide_eq_decide]
    omega
  obtain ⟨hvalue, hcarry⟩ := adjusted_of_n (r := sub8 (Spec.bcd x) (Spec.bcd y) c) rfl
  refine ⟨BitVec.eq_of_toNat_eq ?_, hcarry.trans hhigh⟩
  rw [hvalue, hdiff, hhigh, hlow, toNat_bcd (Nat.mod_lt _ (by decide))]
  simp only [decide_eq_true_eq]
  split_ifs <;> omega

end

theorem State.flags_setAFlags_charge (s : State) (r : Byte × Flags) (n : Nat) : ((s.setAFlags r).charge n).flags = r.2 :=
  State.flags_setFlags s r.2

/-- DAA after an operation on A with an immediate finds in A and in the flags what the operation wrote there. -/
theorem exec_daa_after_aluImm (op : AluOp) {s : State} {a : Byte} (ha : s.a = a) {n v : Byte} {carry : Bool}
    (h : (adjusted (alu8 op a n (Spec.cf s))).1 = v ∧ (adjusted (alu8 op a n (Spec.cf s))).2.c = carry) :
    ∃ t u, exec (.aluImm op n) s = .next t ∧ exec .daa t = .next u ∧ u.a = v ∧ Spec.cf u = carry := by
  obtain ⟨rfl, rfl⟩ := h
  subst ha
  refine ⟨_, _, exec_of_shape (shape_aluImm op n) s, exec_daa _, ?_, ?_⟩
  · rw [State.charge_a, State.setAFlags_a, State.flags_setAFlags_charge]
    rfl
  · rw [State.flags_setAFlags_charge]
    exact congrArg Flags.c (State.flags_setAFlags_charge _ _ 4)

/-! ### The statements -/

/-- Settles O29: each row by its operation and register. -/
theorem aluRegisterResult : Obligations.AluRegisterResult := by
  unfold Obligations.AluRegisterResult
  exact fun op r s => ⟨encode_aluReg op r, exec_aluReg op r s⟩

/-- Settles O30: each row by its operation, its operand read at HL. -/
theorem aluAtHlResult : Obligations.AluAtHlResult := by
  unfold Obligations.AluAtHlResult
  exact fun op s => ⟨encode_aluMemHl op, exec_aluMemHl op s⟩

/-- Settles O31: each row by its operation and immediate. -/
theorem aluImmediateResult : Obligations.AluImmediateResult := by
  unfold Obligations.AluImmediateResult
  exact fun op n s => ⟨encode_aluImm op n, exec_aluImm op n s⟩

/-- Settles O32: the register rows by their register, and the two rows at HL. -/
theorem incDecResult : Obligations.IncDecResult := by
  unfold Obligations.IncDecResult
  exact fun r s => ⟨⟨encode_incReg r, exec_incReg r s⟩, ⟨encode_decReg r, exec_decReg r s⟩, ⟨rfl, exec_incMemHl s⟩,
    ⟨rfl, exec_decMemHl s⟩⟩

/-- Settles O33: DAA by the statement's corrections, the others by the flags they write. -/
theorem accumulatorAdjustResult : Obligations.AccumulatorAdjustResult := by
  unfold Obligations.AccumulatorAdjustResult
  intro s
  refine ⟨⟨rfl, ?_⟩, ⟨rfl, exec_cpl s⟩, ⟨rfl, exec_scf s⟩, ⟨rfl, exec_ccf s⟩⟩
  rw [exec_daa, daa8_eq_spec, State.setAFlags_eq, Flags.byte_eq_spec]
  rfl

/-- Settles O34: the sums with the carry-in of each row, ADD's being 0; the differences likewise. -/
theorem daaGivesPackedDecimal : Obligations.DaaGivesPackedDecimal := by
  unfold Obligations.DaaGivesPackedDecimal
  intro x y s hx hy ha
  have hsub := adjusted_sub8_bcd hx hy false
  have hmod : (x + 200 - y - false.toNat) % 100 = (x + 100 - y) % 100 := by
    rw [Bool.toNat_false]
    omega
  rw [hmod] at hsub
  exact ⟨exec_daa_after_aluImm .add ha (adjusted_add8_bcd hx hy false),
    exec_daa_after_aluImm .adc ha (adjusted_add8_bcd hx hy (Spec.cf s)),
    exec_daa_after_aluImm .sub ha hsub,
    exec_daa_after_aluImm .sbc ha (adjusted_sub8_bcd hx hy (Spec.cf s))⟩

end Sys2Proof.Machine
end

section
/-! SUPPORT. 16-bit arithmetic (spec/43_alu16.md R600 to R602): the model's sum of two words is the statements', and the rows of a pair do
what their shapes do with it. -/

namespace Sys2Proof.Machine

/-! ### Pairs and sums as the statements write them -/

theorem State.pairSp_eq_spec (s : State) (p : PairSp) : s.pairSp p = Spec.pairSp s p := by
  cases p <;> rfl

/-- A sum of two words with its carries out of bits 11 and 15, Z kept (R602). -/
theorem add16_eq_spec (a b : Word) (fl : Flags) : add16 a b fl =
    (a + b, { z := fl.z, n := false, h := Spec.carryAt 12 a b false, c := Spec.carryAt 16 a b false }) := by
  have ha := a.isLt
  have hb := b.isLt
  have hsum : BitVec.ofNat 16 (a.toNat + b.toNat) = a + b := by simp [BitVec.ofNat_add]
  simp only [add16, hsum, Spec.carryAt, Bool.toNat_false, Prod.mk.injEq, Flags.mk.injEq, decide_eq_decide, true_and]
  constructor <;> omega

/-! ### The rows by their pair -/

theorem encode_incPair (p : PairSp) : encode (.incPair p) = [0x03 + 16 * Spec.pairSpCode p] := by
  cases p <;> rfl

theorem encode_decPair (p : PairSp) : encode (.decPair p) = [0x0B + 16 * Spec.pairSpCode p] := by
  cases p <;> rfl

theorem encode_addHlPair (p : PairSp) : encode (.addHlPair p) = [0x09 + 16 * Spec.pairSpCode p] := by
  cases p <;> rfl

theorem shape_incPair (p : PairSp) : shape (.incPair p) = .incPair p := by
  cases p <;> rfl

theorem shape_decPair (p : PairSp) : shape (.decPair p) = .decPair p := by
  cases p <;> rfl

theorem shape_addHlPair (p : PairSp) : shape (.addHlPair p) = .addHl p := by
  cases p <;> rfl

/-- Adding one modulo 2^16 (R600). -/
theorem exec_incPair (p : PairSp) (s : State) : exec (.incPair p) s =
    .next { Spec.setPairSp s (BitVec.ofNat 16 ((Spec.pairSp s p).toNat + 1)) p with cost := some 8 } := by
  have hsum : Spec.pairSp s p + 1 = BitVec.ofNat 16 ((Spec.pairSp s p).toNat + 1) := by bv_omega
  rw [exec_of_shape (shape_incPair p), Shape.run, incPair, State.pairSp_eq_spec, hsum, State.setPairSp_eq_spec]
  rfl

/-- Subtracting one modulo 2^16, which is adding 65535 (R601). -/
theorem exec_decPair (p : PairSp) (s : State) : exec (.decPair p) s =
    .next { Spec.setPairSp s (BitVec.ofNat 16 ((Spec.pairSp s p).toNat + 65535)) p with cost := some 8 } := by
  have hdiff : Spec.pairSp s p - 1 = BitVec.ofNat 16 ((Spec.pairSp s p).toNat + 65535) := by bv_omega
  rw [exec_of_shape (shape_decPair p), Shape.run, decPair, State.pairSp_eq_spec, hdiff, State.setPairSp_eq_spec]
  rfl

/-- Both operands are read before HL is written, so that HL added to itself is doubled (R602). -/
theorem exec_addHlPair (p : PairSp) (s : State) : exec (.addHlPair p) s =
    .next { Spec.setPairSp s (Spec.pairSp s .hl + Spec.pairSp s p) .hl with
      f := Spec.flagByte (Spec.zf s) false (Spec.carryAt 12 (Spec.pairSp s .hl) (Spec.pairSp s p) false)
        (Spec.carryAt 16 (Spec.pairSp s .hl) (Spec.pairSp s p) false)
      cost := some 8 } := by
  rw [exec_of_shape (shape_addHlPair p), Shape.run, addHlPair, State.pairSp_eq_spec, add16_eq_spec, State.setFlags_eq_spec,
    ← State.setPairSp_eq_spec]
  rfl

/-! ### The statements -/

/-- Settles O36: each row by its pair, with the sum and the carries of `add16`. -/
theorem addHlResult : Obligations.AddHlResult := by
  unfold Obligations.AddHlResult
  exact fun p s => ⟨encode_addHlPair p, exec_addHlPair p s⟩

/-- Settles O35: each row by its pair. -/
theorem incDecPairResult : Obligations.IncDecPairResult := by
  unfold Obligations.IncDecPairResult
  exact fun p s => ⟨⟨encode_incPair p, exec_incPair p s⟩, ⟨encode_decPair p, exec_decPair p s⟩⟩

end Sys2Proof.Machine
end

section
/-! SUPPORT. Rotates, shifts and bits (spec/44_rotate_shift_bit.md R650 to R685): the model's results are the statements', and the rows do
what their shapes do with them. -/

namespace Sys2Proof.Machine

/-! ### The eight rotates and shifts as the statements write them (R660) -/

theorem getLsbD_seven (v : Byte) : v.getLsbD 7 = decide (v.toNat ≥ 128) :=
  v.msb_eq_getLsbD_last.symm.trans v.msb_eq_toNat

theorem getLsbD_zero (v : Byte) : v.getLsbD 0 = decide (v.toNat % 2 = 1) :=
  Nat.testBit_zero v.toNat

theorem toNat_carryBit (c : Bool) : (carryBit c).toNat = c.toNat := by
  cases c <;> rfl

/-- The carry shifted in at bit 0, as a sum (R665). -/
theorem shiftLeft_or_carryBit (v : Byte) (c : Bool) : v <<< 1 ||| carryBit c = BitVec.ofNat 8 (v.toNat * 2 + c.toNat) := by
  have hdisjoint : v <<< 1 &&& carryBit c = 0 := by
    cases c with
    | false => exact BitVec.and_zero
    | true =>
      ext i hi
      cases i <;> simp [carryBit]
  rw [← BitVec.add_eq_or_of_and_eq_zero _ _ hdisjoint]
  apply BitVec.eq_of_toNat_eq
  simp [toNat_carryBit, Nat.shiftLeft_eq]

/-- The carry shifted in at bit 7, as a sum (R667). -/
theorem shiftRight_or_carryBit (v : Byte) (c : Bool) :
    v >>> 1 ||| carryBit c <<< 7 = BitVec.ofNat 8 ((v.toNat + 256 * c.toNat) / 2) := by
  have hv := v.isLt
  have hc := c.toNat_le
  apply BitVec.eq_of_toNat_eq
  have hor := Nat.two_pow_add_eq_or_of_lt (i := 7) (b := v.toNat / 2) (by omega) c.toNat
  simp only [BitVec.toNat_or, BitVec.toNat_ushiftRight, BitVec.toNat_shiftLeft, toNat_carryBit, BitVec.toNat_ofNat,
    Nat.shiftLeft_eq, Nat.shiftRight_eq_div_pow, Nat.or_comm (_ / _), Nat.mul_comm _ (2 ^ 7)]
  rw [Nat.mod_eq_of_lt (by omega), ← hor]
  omega

/-- Bit 7 alone, at bit 0, where RLC puts it (R661). -/
theorem shiftRight_seven_eq_carryBit (v : Byte) : v >>> 7 = carryBit (v.getLsbD 7) := by
  have hv := v.isLt
  apply BitVec.eq_of_toNat_eq
  rw [toNat_carryBit, getLsbD_seven, Bool.toNat, Bool.cond_decide, BitVec.toNat_ushiftRight, Nat.shiftRight_eq_div_pow]
  split <;> omega

/-- Bit 0 alone, at bit 7, where RRC puts it (R663). -/
theorem shiftLeft_seven_eq_carryBit (v : Byte) : v <<< 7 = carryBit (v.getLsbD 0) <<< 7 := by
  apply BitVec.eq_of_toNat_eq
  simp only [BitVec.toNat_shiftLeft, toNat_carryBit, getLsbD_zero, Bool.toNat, Bool.cond_decide, Nat.shiftLeft_eq]
  split <;> omega

/-- A shift right that keeps bit 7 is the arithmetic one (R671). -/
theorem shiftRight_or_signBit (v : Byte) : v >>> 1 ||| v &&& 0x80 = v.sshiftRight 1 := by
  have hmask : (0x80 : Byte) = BitVec.twoPow 8 7 := rfl
  rw [hmask]
  ext i hi
  by_cases h : i = 7
  · subst h
    simp [BitVec.getElem_sshiftRight, BitVec.msb_eq_getLsbD_last]
  · have hlow : 1 + i < 8 := by omega
    simp [BitVec.getElem_sshiftRight, h, hlow]

/-- The two nibbles exchanged are the byte rotated by four (R673). -/
theorem nibbles_exchanged (v : Byte) : v.extractLsb' 0 4 ++ v.extractLsb' 4 4 = v.rotateLeft 4 := by
  have hv := v.isLt
  have hlow : v.toNat % 16 * 16 = v.toNat * 16 % 256 := by omega
  have hhigh : v.toNat / 16 % 16 = v.toNat / 16 := by omega
  refine BitVec.eq_of_toNat_eq ((BitVec.toNat_append _ _).trans ?_)
  simp [BitVec.rotateLeft_def, Nat.shiftLeft_eq, Nat.shiftRight_eq_div_pow, hlow, hhigh]

/-- The eight results; SLA and SRL shift in what RL and RR do where the carry is clear. -/
theorem rot8_value (k : RotOp) (v : Byte) (c : Bool) : (rot8 k v c).1 = Spec.rotV k v c := by
  cases k with
  | rlc => rw [Spec.rotV, BitVec.rotateLeft_def, shiftRight_seven_eq_carryBit]; rfl
  | rrc => rw [Spec.rotV, BitVec.rotateRight_def, shiftLeft_seven_eq_carryBit]; rfl
  | rl => exact shiftLeft_or_carryBit v c
  | rr => exact shiftRight_or_carryBit v c
  | sla => exact BitVec.or_zero.symm.trans (shiftLeft_or_carryBit v false)
  | sra => exact shiftRight_or_signBit v
  | swap => exact nibbles_exchanged v
  | srl => exact BitVec.or_zero.symm.trans (shiftRight_or_carryBit v false)

/-- The bit shifted out; SWAP shifts out none. -/
theorem rot8_carry (k : RotOp) (v : Byte) (c : Bool) : (rot8 k v c).2 = Spec.rotC k v := by
  cases k with
  | rlc | rl | sla => exact getLsbD_seven v
  | rrc | rr | sra | srl => exact getLsbD_zero v
  | swap => rfl

/-! ### A bit tested, cleared and set (R680, R682, R684) -/

/-- BIT's Z is set where the bit is 0 (R680). -/
theorem not_getLsbD_eq_decide (v : Byte) (i : Nat) : (!v.getLsbD i) = decide (v.toNat / 2 ^ i % 2 = 0) := by
  rw [BitVec.getLsbD, Nat.testBit_eq_decide_div_mod_eq, ← decide_not, decide_eq_decide]
  exact Nat.mod_two_ne_one

/-- Clearing a bit takes it away where it stands. -/
theorem clearBit_eq_spec (b : Fin 8) (v : Byte) : clearBit b v = Spec.without b v := by
  have hsplit : (v &&& ~~~BitVec.twoPow 8 b) + (v &&& BitVec.twoPow 8 b) = v := by
    rw [BitVec.add_eq_or_of_and_eq_zero]
    · rw [← BitVec.and_or_distrib_left, BitVec.or_comm, BitVec.or_not_self, BitVec.and_allOnes]
    · ext i hi
      simp +contextual
  have hclear : clearBit b v = v - (v &&& BitVec.twoPow 8 b) := eq_sub_of_add_eq hsplit
  rw [hclear, BitVec.and_twoPow, Spec.without]
  split
  · rfl
  · exact BitVec.sub_zero v

/-- Setting a bit adds it where it is missing. -/
theorem raiseBit_eq_spec (b : Fin 8) (v : Byte) : raiseBit b v = Spec.withBit b v := by
  have hraise : raiseBit b v = v ||| BitVec.twoPow 8 b := rfl
  rw [hraise, Spec.withBit]
  split
  case isTrue h =>
    ext i hi
    simp only [BitVec.getElem_or, BitVec.getElem_twoPow, Bool.or_eq_left_iff_imp, decide_eq_true_eq]
    rintro rfl
    exact h
  case isFalse h =>
    have hdisjoint : v &&& BitVec.twoPow 8 b = 0 := by rw [BitVec.and_twoPow, if_neg h]; rfl
    exact (BitVec.add_eq_or_of_and_eq_zero v _ hdisjoint).symm

/-! ### The rows by their operands -/

theorem encode_rotReg (k : RotOp) (r : Reg8) : encode (.rotReg k r) = [0xCB, 8 * Spec.rotCode k + Spec.regCode r] := by
  cases k <;> cases r <;> rfl

theorem encode_rotMemHl (k : RotOp) : encode (.rotMemHl k) = [0xCB, 8 * Spec.rotCode k + 6] := by
  cases k <;> rfl

theorem encode_bitReg (b : Fin 8) (r : Reg8) :
    encode (.bitReg b r) = [0xCB, 0x40 + 8 * Spec.bitCode b + Spec.regCode r] := by
  fin_cases b <;> cases r <;> rfl

theorem encode_bitMemHl (b : Fin 8) : encode (.bitMemHl b) = [0xCB, 0x46 + 8 * Spec.bitCode b] := by
  fin_cases b <;> rfl

theorem encode_resReg (b : Fin 8) (r : Reg8) :
    encode (.resReg b r) = [0xCB, 0x80 + 8 * Spec.bitCode b + Spec.regCode r] := by
  fin_cases b <;> cases r <;> rfl

theorem encode_resMemHl (b : Fin 8) : encode (.resMemHl b) = [0xCB, 0x86 + 8 * Spec.bitCode b] := by
  fin_cases b <;> rfl

theorem encode_setReg (b : Fin 8) (r : Reg8) :
    encode (.setReg b r) = [0xCB, 0xC0 + 8 * Spec.bitCode b + Spec.regCode r] := by
  fin_cases b <;> cases r <;> rfl

theorem encode_setMemHl (b : Fin 8) : encode (.setMemHl b) = [0xCB, 0xC6 + 8 * Spec.bitCode b] := by
  fin_cases b <;> rfl

theorem shape_rotReg (k : RotOp) (r : Reg8) : shape (.rotReg k r) = .rotReg k r := by
  cases k <;> cases r <;> rfl

theorem shape_rotMemHl (k : RotOp) : shape (.rotMemHl k) = .rotMem k := by
  cases k <;> rfl

theorem shape_bitReg (b : Fin 8) (r : Reg8) : shape (.bitReg b r) = .bitReg b r := by
  fin_cases b <;> cases r <;> rfl

theorem shape_bitMemHl (b : Fin 8) : shape (.bitMemHl b) = .bitMem b := by
  fin_cases b <;> rfl

theorem shape_resReg (b : Fin 8) (r : Reg8) : shape (.resReg b r) = .resReg b r := by
  fin_cases b <;> cases r <;> rfl

theorem shape_resMemHl (b : Fin 8) : shape (.resMemHl b) = .resMem b := by
  fin_cases b <;> rfl

theorem shape_setReg (b : Fin 8) (r : Reg8) : shape (.setReg b r) = .setReg b r := by
  fin_cases b <;> cases r <;> rfl

theorem shape_setMemHl (b : Fin 8) : shape (.setMemHl b) = .setMem b := by
  fin_cases b <;> rfl

/-- A rotate of A: Z is cleared, whatever the result (R650 to R653). -/
theorem exec_rotA {i : Instr} {k : RotOp} (hi : shape i = .rotA k) (s : State) : exec i s = .next { s with
    a := Spec.rotV k s.a (Spec.cf s), f := Spec.flagByte false false false (rot8 k s.a (Spec.cf s)).2, cost := some 4 } := by
  rw [exec_of_shape hi, Shape.run, ← rot8_value]
  simp only [rotateA, State.setAFlags_eq, Flags.byte_eq_spec]
  rfl

theorem exec_rotReg (k : RotOp) (r : Reg8) (s : State) :
    exec (.rotReg k r) s = .next { s.setReg r (Spec.rotV k (s.reg r) (Spec.cf s)) with
      f := Spec.flagByte (Spec.rotV k (s.reg r) (Spec.cf s) == 0) false false (Spec.rotC k (s.reg r)), cost := some 8 } := by
  rw [exec_of_shape (shape_rotReg k r), Shape.run, ← rot8_value, ← rot8_carry k (s.reg r) (Spec.cf s)]
  simp only [rotateReg, State.setFlags_eq_spec]
  rfl

theorem exec_rotMemHl (k : RotOp) (s : State) :
    exec (.rotMemHl k) s = .next { (s.afterRead s.hl).write s.hl (Spec.rotV k (s.read s.hl) (Spec.cf s)) with
      f := Spec.flagByte (Spec.rotV k (s.read s.hl) (Spec.cf s) == 0) false false (Spec.rotC k (s.read s.hl))
      cost := some 16 } := by
  rw [exec_of_shape (shape_rotMemHl k), Shape.run, ← rot8_value, ← rot8_carry k (s.read s.hl) (Spec.cf s)]
  simp only [rotateMemHl, State.setFlags_eq_spec]
  rfl

theorem exec_bitReg (b : Fin 8) (r : Reg8) (s : State) : exec (.bitReg b r) s = .next { s with
    f := Spec.flagByte (decide ((s.reg r).toNat / 2 ^ b.val % 2 = 0)) false true (Spec.cf s), cost := some 8 } := by
  rw [exec_of_shape (shape_bitReg b r), Shape.run, testReg, State.setFlags_eq_spec, ← not_getLsbD_eq_decide]
  rfl

theorem exec_bitMemHl (b : Fin 8) (s : State) : exec (.bitMemHl b) s = .next { s.afterRead s.hl with
    f := Spec.flagByte (decide ((s.read s.hl).toNat / 2 ^ b.val % 2 = 0)) false true (Spec.cf s), cost := some 12 } := by
  rw [exec_of_shape (shape_bitMemHl b), Shape.run, testMemHl, State.setFlags_eq_spec, ← not_getLsbD_eq_decide]
  rfl

theorem exec_resReg (b : Fin 8) (r : Reg8) (s : State) :
    exec (.resReg b r) s = .next { s.setReg r (Spec.without b (s.reg r)) with cost := some 8 } := by
  rw [exec_of_shape (shape_resReg b r), ← clearBit_eq_spec]
  rfl

theorem exec_resMemHl (b : Fin 8) (s : State) : exec (.resMemHl b) s =
    .next { (s.afterRead s.hl).write s.hl (Spec.without b (s.read s.hl)) with cost := some 16 } := by
  rw [exec_of_shape (shape_resMemHl b), ← clearBit_eq_spec]
  rfl

theorem exec_setReg (b : Fin 8) (r : Reg8) (s : State) :
    exec (.setReg b r) s = .next { s.setReg r (Spec.withBit b (s.reg r)) with cost := some 8 } := by
  rw [exec_of_shape (shape_setReg b r), ← raiseBit_eq_spec]
  rfl

theorem exec_setMemHl (b : Fin 8) (s : State) : exec (.setMemHl b) s =
    .next { (s.afterRead s.hl).write s.hl (Spec.withBit b (s.read s.hl)) with cost := some 16 } := by
  rw [exec_of_shape (shape_setMemHl b), ← raiseBit_eq_spec]
  rfl

/-! ### The statements -/

/-- Settles O38: each row by its operation and register. -/
theorem rotateRegisterResult : Obligations.RotateRegisterResult := by
  unfold Obligations.RotateRegisterResult
  exact fun k r s => ⟨encode_rotReg k r, exec_rotReg k r s⟩

/-- Settles O39: each row by its operation, its operand read at HL. -/
theorem rotateAtHlResult : Obligations.RotateAtHlResult := by
  unfold Obligations.RotateAtHlResult
  exact fun k s => ⟨encode_rotMemHl k, exec_rotMemHl k s⟩

/-- Settles O40: each row by its bit and register, and the row at HL by its bit. -/
theorem bitTestResult : Obligations.BitTestResult := by
  unfold Obligations.BitTestResult
  exact fun b r s => ⟨⟨encode_bitReg b r, exec_bitReg b r s⟩, ⟨encode_bitMemHl b, exec_bitMemHl b s⟩⟩

/-- Settles O41: each row by its bit and register, and the rows at HL by their bit. -/
theorem bitResetSetResult : Obligations.BitResetSetResult := by
  unfold Obligations.BitResetSetResult
  exact fun b r s => ⟨⟨encode_resReg b r, exec_resReg b r s⟩, ⟨encode_resMemHl b, exec_resMemHl b s⟩,
    ⟨encode_setReg b r, exec_setReg b r s⟩, ⟨encode_setMemHl b, exec_setMemHl b s⟩⟩

/-- Settles O37: each row is a rotate of A by its operation. -/
theorem accumulatorRotateResult : Obligations.AccumulatorRotateResult := by
  unfold Obligations.AccumulatorRotateResult
  exact fun s => ⟨⟨rfl, exec_rotA rfl s⟩, ⟨rfl, exec_rotA rfl s⟩, ⟨rfl, exec_rotA rfl s⟩, ⟨rfl, exec_rotA rfl s⟩⟩

end Sys2Proof.Machine
end

section
/-! SUPPORT. Control transfer (spec/45_control.md R750 to R761): the rows named by their condition or target have the bytes of R302 and R306
and the shapes of the shared operations, a condition is the statements', and a return pops the address its call pushed. -/

namespace Sys2Proof.Machine

/-! ### Conditions, targets and the stack as the statements write them -/

/-- `cond(cc)` (R306). -/
theorem State.cond_eq_spec (s : State) (cc : Cond) : s.flags.cond cc = Spec.holds s cc := by
  cases cc with
  | nz => exact (beq_false (Spec.zf s)).symm
  | z => exact (beq_true (Spec.zf s)).symm
  | nc => exact (beq_false (Spec.cf s)).symm
  | c => exact (beq_true (Spec.cf s)).symm

/-- A signed displacement modulo 2^16 (R753): the same sum as SP's (R603). -/
theorem add_signExtend16_eq_ofInt (x : Word) (e : Byte) : x + signExtend16 e = BitVec.ofInt 16 (x.toNat + e.toInt) :=
  spe8_value x e

theorem State.call_eq_spec (s : State) (x : Word) : s.call x = Spec.called s x := by
  rw [State.call, State.push16_eq_spec]
  rfl

theorem State.ret_eq_spec (s : State) : s.ret = Spec.returned s := rfl

/-! ### The rows by their condition or target -/

theorem encode_jpCond (cc : Cond) (x : Word) :
    encode (.jpCond cc x) = [0xC2 + 8 * Spec.condCode cc, Spec.low x, Spec.high x] := by
  rw [← Word_lo_eq_low, ← Word_hi_eq_high]
  cases cc <;> rfl

theorem encode_jrCond (cc : Cond) (e : Byte) : encode (.jrCond cc e) = [0x20 + 8 * Spec.condCode cc, e] := by
  cases cc <;> rfl

theorem encode_callCond (cc : Cond) (x : Word) :
    encode (.callCond cc x) = [0xC4 + 8 * Spec.condCode cc, Spec.low x, Spec.high x] := by
  rw [← Word_lo_eq_low, ← Word_hi_eq_high]
  cases cc <;> rfl

theorem encode_retCond (cc : Cond) : encode (.retCond cc) = [0xC0 + 8 * Spec.condCode cc] := by
  cases cc <;> rfl

theorem encode_rstTo (y : Fin 8) : encode (.rstTo y) = [0xC7 + 8 * Spec.bitCode y] := by
  fin_cases y <;> rfl

theorem encode_jpA16 (x : Word) : encode (.jpA16 x) = [0xC3, Spec.low x, Spec.high x] := by
  rw [← Word_lo_eq_low, ← Word_hi_eq_high]
  rfl

theorem encode_callA16 (x : Word) : encode (.callA16 x) = [0xCD, Spec.low x, Spec.high x] := by
  rw [← Word_lo_eq_low, ← Word_hi_eq_high]
  rfl

theorem shape_jpCond (cc : Cond) (x : Word) : shape (.jpCond cc x) = .jpIf cc x := by
  cases cc <;> rfl

theorem shape_jrCond (cc : Cond) (e : Byte) : shape (.jrCond cc e) = .jrIf cc e := by
  cases cc <;> rfl

theorem shape_callCond (cc : Cond) (x : Word) : shape (.callCond cc x) = .callIf cc x := by
  cases cc <;> rfl

theorem shape_retCond (cc : Cond) : shape (.retCond cc) = .retIf cc := by
  cases cc <;> rfl

/-- RST's target is 8 times its field `y` (R761). -/
theorem shape_rstTo (y : Fin 8) : shape (.rstTo y) = .rst (BitVec.ofNat 16 (8 * y.val)) := by
  fin_cases y <;> rfl

/-! ### Jumps (R750 to R754) -/

theorem jumpIf_eq_spec (cc : Cond) (x : Word) (m n : Nat) (s : State) : jumpIf cc x m n s =
    if Spec.holds s cc then .next { s with pc := x, cost := some m } else .next { s with cost := some n } := by
  rw [jumpIf, State.cond_eq_spec]
  rfl

theorem exec_jrE8 (e : Byte) (s : State) :
    exec (.jrE8 e) s = .next { s with pc := BitVec.ofInt 16 (s.pc.toNat + e.toInt), cost := some 12 } := by
  rw [exec_of_shape (h := .jr e) rfl, ← add_signExtend16_eq_ofInt]
  rfl

theorem exec_jpCond (cc : Cond) (x : Word) (s : State) : exec (.jpCond cc x) s =
    if Spec.holds s cc then .next { s with pc := x, cost := some 16 } else .next { s with cost := some 12 } := by
  rw [exec_of_shape (shape_jpCond cc x), Shape.run, jumpIf_eq_spec]

theorem exec_jrCond (cc : Cond) (e : Byte) (s : State) : exec (.jrCond cc e) s =
    if Spec.holds s cc then .next { s with pc := BitVec.ofInt 16 (s.pc.toNat + e.toInt), cost := some 12 }
    else .next { s with cost := some 8 } := by
  rw [exec_of_shape (shape_jrCond cc e), Shape.run, jumpIf_eq_spec, add_signExtend16_eq_ofInt]

/-! ### Calls and returns (R755 to R758, R760, R761) -/

theorem exec_callA16 (x : Word) (s : State) : exec (.callA16 x) s = .next ((s.call x).charge 24) :=
  exec_of_shape (h := .call x) rfl s

theorem exec_ret (s : State) : exec .ret s = .next (s.ret.charge 16) :=
  exec_of_shape (h := .ret) rfl s

theorem exec_reti (s : State) : exec .reti s = .next { Spec.returned s with ime := true, eiDelay := 0, cost := some 16 } := by
  rw [exec_of_shape (h := .reti) rfl, Shape.run, execReti, State.returnFromInterrupt_eq, State.ret_eq_spec]
  rfl

theorem exec_callCond (cc : Cond) (x : Word) (s : State) : exec (.callCond cc x) s =
    if Spec.holds s cc then .next { Spec.called s x with cost := some 24 } else .next { s with cost := some 12 } := by
  rw [exec_of_shape (shape_callCond cc x), Shape.run, callIf, State.cond_eq_spec, State.call_eq_spec]
  rfl

theorem exec_retCond (cc : Cond) (s : State) : exec (.retCond cc) s =
    if Spec.holds s cc then .next { Spec.returned s with cost := some 20 } else .next { s with cost := some 8 } := by
  rw [exec_of_shape (shape_retCond cc), Shape.run, returnIf, State.cond_eq_spec, State.ret_eq_spec]
  rfl

theorem exec_rstTo (y : Fin 8) (s : State) :
    exec (.rstTo y) s = .next { Spec.called s (BitVec.ofNat 16 (8 * y.val)) with cost := some 16 } := by
  rw [exec_of_shape (shape_rstTo y), Shape.run, restart, State.call_eq_spec]
  rfl

/-! ### A call and the return from it (R759) -/

@[simp] theorem State.call_pc (s : State) (x : Word) : (s.call x).pc = x := rfl
@[simp] theorem State.call_sp (s : State) (x : Word) : (s.call x).sp = s.sp - 2 := by simp [State.call]
@[simp] theorem State.reg_call (s : State) (x : Word) (r : Reg8) : (s.call x).reg r = s.reg r := by simp [State.call]

@[simp] theorem State.ret_pc (s : State) : s.ret.pc = s.popValue := rfl
@[simp] theorem State.ret_sp (s : State) : s.ret.sp = s.sp + 2 := rfl
@[simp] theorem State.reg_ret (s : State) (r : Reg8) : s.ret.reg r = s.reg r := by simp [State.ret]

/-- A read does not look at PC. -/
theorem State.afterRead_setPc (s : State) (w x : Word) : (s.setPc w).afterRead x = (s.afterRead x).setPc w := by
  simp only [State.afterRead, State.setPc_params, State.setPc_answers]
  split <;> [split; skip] <;> rfl

/-- A pop looks at SP and the bus, not at PC. -/
theorem State.popValue_setPc (s : State) (w : Word) : (s.setPc w).popValue = s.popValue := by
  rw [State.popValue, State.popValue, State.setPc_sp, State.read16, State.read16, State.setPc_read, State.afterRead_setPc, State.setPc_read]

/-- A pop returns the address the call before it pushed, whatever the call was charged. -/
theorem State.PlainStack.popValue_call_charge {s : State} (h : s.PlainStack) (x : Word) (n : Nat) :
    ((s.call x).charge n).popValue = s.pc := by
  have hcommute : (s.call x).charge n = ((s.push16 s.pc).charge n).setPc x := rfl
  rw [hcommute, State.popValue_setPc, h.popValue_push16_charge]

/-! ### The statements -/

/-- Settles O46: the return pops what the call pushed, and neither writes a register but PC and SP. -/
theorem returnComesBackFromCall : Obligations.ReturnComesBackFromCall := by
  unfold Obligations.ReturnComesBackFromCall
  intro x s hmem hhigh hlow hne
  have hvalue := State.PlainStack.popValue_call_charge ⟨hmem, hhigh, hlow, hne⟩ x 24
  refine ⟨_, _, exec_callA16 x s, State.call_pc s x, State.call_sp s x, exec_ret _, hvalue, ?_, fun r => ?_, ?_⟩
  · rw [State.charge_sp, State.ret_sp, State.charge_sp, State.call_sp, BitVec.sub_add_cancel]
  · rw [State.reg_charge, State.reg_ret, State.reg_charge, State.reg_call]
  · rw [State.charge_f, State.ret_f, State.charge_f, State.call_f]

/-- Settles O42: the conditional rows by their condition, the others by the one target each has. -/
theorem jumpResult : Obligations.JumpResult := by
  unfold Obligations.JumpResult
  exact fun cc x e s => ⟨⟨encode_jpA16 x, exec_of_shape (h := .jp x) rfl s⟩, ⟨rfl, exec_of_shape (h := .jpHl) rfl s⟩,
    ⟨encode_jpCond cc x, exec_jpCond cc x s⟩, ⟨rfl, exec_jrE8 e s⟩, ⟨encode_jrCond cc e, exec_jrCond cc e s⟩⟩

/-- Settles O43: each row by its condition or target, with the statements' call and return. -/
theorem callReturnResult : Obligations.CallReturnResult := by
  unfold Obligations.CallReturnResult
  intro cc x y s
  have hcall : exec (.callA16 x) s = .next { Spec.called s x with cost := some 24 } := by
    rw [exec_callA16, State.call_eq_spec]
    rfl
  have hret : exec .ret s = .next { Spec.returned s with cost := some 16 } := by
    rw [exec_ret, State.ret_eq_spec]
    rfl
  exact ⟨⟨encode_callA16 x, hcall⟩, ⟨encode_callCond cc x, exec_callCond cc x s⟩, ⟨rfl, hret⟩,
    ⟨encode_retCond cc, exec_retCond cc s⟩, ⟨rfl, exec_reti s⟩, ⟨encode_rstTo y, exec_rstTo y s⟩⟩

end Sys2Proof.Machine
end

section
/-! SUPPORT. CPU control (spec/46_cpu_control.md R800 to R805): the control rows, the rows behind 0xCB as those their byte selects, and EI
over the two steps after which IME is 1. -/

namespace Sys2Proof.Machine

/-! ### NOP, HALT, DI, EI and STOP (R800, R801, R803 to R805) -/

theorem exec_nop (s : State) : exec .nop s = .next { s with cost := some 4 } :=
  exec_of_shape (h := .nop) rfl s

theorem exec_halt (s : State) : exec .halt s = .next { s with halted := true, cost := some 4 } :=
  exec_of_shape (h := .halt) rfl s

theorem exec_di (s : State) : exec .di s = .next { s with ime := false, eiDelay := 0, cost := some 4 } :=
  exec_of_shape (h := .di) rfl s

/-- EI schedules the enable only where none is needed or pending (R805). -/
theorem exec_ei (s : State) : exec .ei s =
    if s.ime = false ∧ s.eiDelay = 0 then .next { s with eiDelay := 2, cost := some 4 } else .next { s with cost := some 4 } := by
  rw [exec_of_shape (h := .ei) rfl, Shape.run, execEi]
  split <;> rfl

theorem exec_stop_fault (n : Byte) {s : State} (h : s.params.stopMode = .fault) :
    exec (.stop n) s = .next { s with fault := some .unmodelledStop, pc := s.pc - 2, cost := none } := by
  rw [exec_of_shape (h := .stop) rfl, Shape.run, execStop, h]
  rfl

theorem exec_stop_nop2 (n : Byte) {s : State} (h : s.params.stopMode = .nop2) :
    exec (.stop n) s = .next { s with cost := some 4 } := by
  rw [exec_of_shape (h := .stop) rfl, Shape.run, execStop, h]
  rfl

/-- Settles O44: each row by what it writes. -/
theorem controlInstructionResult : Obligations.ControlInstructionResult := by
  unfold Obligations.ControlInstructionResult
  exact fun s => ⟨⟨rfl, exec_nop s⟩, ⟨rfl, exec_halt s⟩, ⟨rfl, exec_di s⟩, ⟨rfl, exec_ei s⟩⟩

/-- Settles O45: one meaning for each STOP_MODE. -/
theorem stopResult : Obligations.StopResult := by
  unfold Obligations.StopResult
  exact fun n s => ⟨rfl, exec_stop_fault n, exec_stop_nop2 n⟩

/-! ### PREFIX CB (R802) -/

/-- A row behind 0xCB has the shape its byte selects. -/
theorem shape_decodeCb (cb : Byte) : shape (decodeCb cb) = cbShape cb := by
  unfold decodeCb cbShape
  generalize opX cb = x, Reg8.ofCode (opZ cb) = r
  match x, r with
  | 0, some r => exact shape_rotReg _ r
  | 0, none => exact shape_rotMemHl _
  | 1, some r => exact shape_bitReg _ r
  | 1, none => exact shape_bitMemHl _
  | 2, some r => exact shape_resReg _ r
  | 2, none => exact shape_resMemHl _
  | 3, some r => exact shape_setReg _ r
  | 3, none => exact shape_setMemHl _

theorem exec_prefixCb (cb : Byte) (s : State) : exec (.prefixCb cb) s = exec (decodeCb cb) s := by
  rw [exec_of_shape (shape_decodeCb cb), ← runCb_eq_cbShape]
  rfl

/-- The costs of the rows behind 0xCB: a register's 8, BIT at HL 12, and the others at HL 16 (R1041). -/
theorem cbShape_run_cost (cb : Byte) (s : State) :
    ∃ t, (cbShape cb).run s = .next t ∧ (t.cost = some 8 ∨ t.cost = some 12 ∨ t.cost = some 16) := by
  unfold cbShape
  generalize opX cb = x, Reg8.ofCode (opZ cb) = r
  match x, r with
  | 0, some _ | 1, some _ | 2, some _ | 3, some _ => exact ⟨_, rfl, .inl rfl⟩
  | 1, none => exact ⟨_, rfl, .inr (.inl rfl)⟩
  | 0, none | 2, none | 3, none => exact ⟨_, rfl, .inr (.inr rfl)⟩

/-- Settles O6: both run the shape the byte selects, which has a cost; only STOP and the illegal bytes raise a fault. -/
theorem prefixRunsTheSelectedRow : Obligations.PrefixRunsTheSelectedRow := by
  unfold Obligations.PrefixRunsTheSelectedRow
  intro cb b2 s
  obtain ⟨t, hrun, hcost⟩ := cbShape_run_cost cb s
  have hexec : exec (.prefixCb cb) s = .next t := (exec_eq_instrShape _ s).trans hrun
  obtain ⟨-, -, -, hfault, -⟩ := onlyControlInstructionsChangeControlState _ s t hexec
  exact ⟨rfl, exec_prefixCb cb s, t, hexec, hfault nofun nofun, hcost⟩

/-! ### EI and the step after it (R805, R905) -/

theorem instrLength_pos (op : Byte) : 0 < instrLength op := by
  unfold instrLength
  split_ifs <;> decide

/-- The instruction that runs starts with the byte at PC. -/
theorem State.fetched_eq_decodeBytes (s : State) : ∃ b1 b2, s.fetched = decodeBytes (s.read s.pc) b1 b2 := by
  obtain ⟨k, hk⟩ := Nat.exists_eq_add_of_le' (instrLength_pos (s.read s.pc))
  refine ⟨_, _, congrArg (decodeBytes · _ _) ?_⟩
  rw [State.fetch, hk]
  rfl

theorem State.fetched_eq_ei {s : State} (h : s.read s.pc = 0xFB) : s.fetched = .ei := by
  obtain ⟨b1, b2, hfetched⟩ := s.fetched_eq_decodeBytes
  rw [hfetched, h]
  rfl

theorem State.fetched_eq_di_iff (s : State) : s.fetched = .di ↔ s.read s.pc = 0xF3 := by
  obtain ⟨b1, b2, hfetched⟩ := s.fetched_eq_decodeBytes
  constructor
  · intro hdi
    have hencode : encode (decodeBytes (s.read s.pc) b1 b2) = [0xF3] := by rw [← hfetched, hdi]; rfl
    exact (head_of_encode_decodeBytes hencode).symm
  · intro hbyte
    rw [hfetched, hbyte]
    rfl

/-- A step that executes and completes ends with the bookkeeping and the devices' turn (R905, R907). -/
theorem step_completes {s u : State} (hs : Spec.executes s) (hstep : step s = .next u) (hu : u.fault = none) :
    ∃ v, exec s.fetched s.pastFetch = .next v ∧ u = v.bookkeeping.elapse := by
  obtain ⟨hfault, hhalted, hint⟩ := hs
  obtain ⟨v, hexec, -⟩ := exec_answers s.fetched s.pastFetch
  refine ⟨v, hexec, ?_⟩
  rw [step_executes hfault hhalted hint.symm, hexec, afterExec] at hstep
  split at hstep
  · next hraised => cases hstep; simp [hu] at hraised
  · cases hstep; rfl

/-- The step that runs EI leaves the enable one instruction away (R805). -/
theorem step_ei {s : State} (hs : Spec.executes s) (hime : s.ime = false) (hdelay : s.eiDelay = 0) (hbyte : s.read s.pc = 0xFB) :
    step s = .next (State.elapse { s.pastFetch with eiDelay := 1, cost := some 4 }) := by
  obtain ⟨hfault, hhalted, hint⟩ := hs
  have hexec : exec s.fetched s.pastFetch = .next { s.pastFetch with eiDelay := 2, cost := some 4 } := by
    rw [State.fetched_eq_ei hbyte, exec_ei, if_pos (by simp [hime, hdelay])]
  rw [step_executes hfault hhalted hint.symm, hexec, afterExec, if_neg (by simp [hfault])]
  rfl

/-- With the enable one instruction away, the bookkeeping after any instruction but DI leaves IME = 1 and none pending: EI does not
restart the countdown, and RETI has set IME itself. -/
theorem ExecCase.enables {i : Instr} {s t : State} (h : ExecCase s i t) (hs : s.eiDelay = 1) (hi : i ≠ .di) :
    t.bookkeeping.eiDelay = 0 ∧ t.bookkeeping.ime = true := by
  have counted : t.eiDelay = 1 → t.bookkeeping.eiDelay = 0 ∧ t.bookkeeping.ime = true := fun ht => by
    simp [State.bookkeeping, ht]
  cases h with
  | data hd =>
    obtain ⟨-, hdelay, -, -⟩ := hd.control
    exact counted (hdelay.trans hs)
  | di => exact absurd rfl hi
  | ei => exact counted (by simp [hs])
  | reti => exact ⟨rfl, rfl⟩
  | halt | stop | illegal => exact counted hs

/-- Settles O11: the state after EI executes, since IME is 0, and its step ends in the bookkeeping, with nothing to count after DI. -/
theorem eiEnablesAfterTheNextInstruction : Obligations.EiEnablesAfterTheNextInstruction := by
  unfold Obligations.EiEnablesAfterTheNextInstruction
  intro s t u hs hime hdelay hbyte hstep hnext hu
  rw [step_ei hs hime hdelay hbyte] at hstep
  obtain ⟨hfault, hhalted, -⟩ := hs
  have ht : State.elapse { s.pastFetch with eiDelay := 1, cost := some 4 } = t := Host.Outcome.next.inj hstep
  have htime : t.ime = false := by simp [← ht, hime]
  have htdelay : t.eiDelay = 1 := by simp [← ht]
  have htexec : Spec.executes t := ⟨by simp [← ht, hfault], by simp [← ht, hhalted], .inl htime⟩
  obtain ⟨v, hexec, rfl⟩ := step_completes htexec hnext hu
  rw [State.elapse_eiDelay, State.elapse_ime]
  refine ⟨htime, htdelay, ?_⟩
  by_cases hdi : t.read t.pc = 0xF3
  · rw [t.fetched_eq_di_iff.mpr hdi, exec_di] at hexec
    cases hexec
    exact ⟨rfl, fun hne => absurd hdi hne, fun _ => rfl⟩
  · obtain ⟨hcounted, hset⟩ := (exec_cases hexec).enables (by simpa using htdelay) (mt t.fetched_eq_di_iff.mp hdi)
    exact ⟨hcounted, fun _ => hset, fun hbyte => absurd hbyte hdi⟩

end Sys2Proof.Machine
end

section
/-! SUPPORT. The T-states of an instruction (spec/70_reset_and_hazards.md R1040, R1041, R1043): a shape has one cost, or two by its
condition, or raises a fault and has none; the tables give every row the costs of its shape, all whole machine cycles. -/

namespace Sys2Proof.Machine

/-! ### What a shape costs -/

/-- The costs of a shape, taken and not taken: the same for one without a condition. -/
def Shape.costs : Shape → Nat × Nat
  | .loadReg .. | .aluReg .. | .incReg _ | .decReg _ | .daa | .cpl | .scf | .ccf | .rotA _ | .jpHl | .nop | .halt | .stop | .di | .ei => (4, 4)
  | .loadImm .. | .loadMem _ | .storeReg _ | .storeAHl _ | .loadAHl _ | .spHl | .aluMem _ | .aluImm .. | .incPair _ | .decPair _ | .addHl _
    | .rotReg .. | .bitReg .. | .resReg .. | .setReg .. => (8, 8)
  | .storeImm _ | .loadPair .. | .pop _ | .hlSp _ | .incMem | .decMem | .bitMem _ | .jr _ => (12, 12)
  | .push _ | .addSp _ | .rotMem _ | .resMem _ | .setMem _ | .jp _ | .ret | .reti | .rst _ => (16, 16)
  | .storeSp _ => (20, 20)
  | .call _ => (24, 24)
  | .loadA _ n | .storeA _ n => (n, n)
  | .jrIf .. => (12, 8)
  | .jpIf .. => (16, 12)
  | .callIf .. => (24, 12)
  | .retIf _ => (20, 8)
  | .illegal _ | .cb _ => (0, 0)

/-- Whether a conditional shape is taken. -/
def Shape.taken (fl : Flags) : Shape → Bool
  | .jrIf cc _ | .jpIf cc _ | .callIf cc _ | .retIf cc => fl.cond cc
  | _ => true

/-- Whether a shape raises a fault (R803, R806). -/
def Shape.raises (s : State) : Shape → Bool
  | .illegal _ => true
  | .stop => decide (s.params.stopMode = .fault)
  | _ => false

/-- The cost a shape returns: none where it raises a fault. -/
def Shape.cost (s : State) (h : Shape) : Option Nat :=
  if h.raises s then none else some (if h.taken s.flags then h.costs.1 else h.costs.2)

theorem jumpIf_cost {cc : Cond} {x : Word} {m n : Nat} {s t : State} (h : jumpIf cc x m n s = .next t) :
    t.cost = some (if s.flags.cond cc then m else n) := by
  unfold jumpIf at h
  split at h <;> next hcc => cases h; simp [hcc]

theorem callIf_cost {cc : Cond} {x : Word} {s t : State} (h : callIf cc x s = .next t) :
    t.cost = some (if s.flags.cond cc then 24 else 12) := by
  unfold callIf at h
  split at h <;> next hcc => cases h; simp [hcc]

theorem returnIf_cost {cc : Cond} {s t : State} (h : returnIf cc s = .next t) :
    t.cost = some (if s.flags.cond cc then 20 else 8) := by
  unfold returnIf at h
  split at h <;> next hcc => cases h; simp [hcc]

/-- STOP returns a cost or raises its fault, by STOP_MODE (R803). -/
theorem execStop_cost {s t : State} (h : execStop 0 s = .next t) : t.cost = Shape.cost s .stop := by
  unfold execStop at h
  split at h <;> next hmode => cases h; simp [Shape.cost, Shape.raises, Shape.taken, Shape.costs, hmode, State.raiseFault]

/-- A shape returns its cost. -/
theorem Shape.run_cost {i : Instr} {h : Shape} (hn : h.Names i) {s t : State} (hr : h.run s = .next t) : t.cost = h.cost s := by
  cases h with
  | cb op => exact hn.elim
  | jpIf cc x | jrIf cc e => exact jumpIf_cost hr
  | callIf cc x => exact callIf_cost hr
  | retIf cc => exact returnIf_cost hr
  | stop => exact execStop_cost hr
  | _ => cases hr; rfl

/-- A shape that raises a fault writes it. -/
theorem Shape.run_raises {h : Shape} {s t : State} (hr : h.run s = .next t) (hraises : h.raises s = true) : t.fault ≠ none := by
  cases h with
  | illegal op => cases hr; exact nofun
  | stop =>
    have hmode : s.params.stopMode = .fault := of_decide_eq_true hraises
    rw [Shape.run, execStop, hmode] at hr
    cases hr
    exact nofun
  | _ => cases hraises

/-! ### What the tables give a row -/

/-- A fact about the bytes of a row and its shape holds of every instruction if it holds of the canonical ones: PREFIX_CB has the bytes
and the shape of the row it selects (R802). -/
theorem rows_induct {P : List Byte → Shape → Prop} (hrow : ∀ i : Instr, i.wellFormed = true → P (encode i) (shape i)) (i : Instr) :
    P (encode i) (instrShape i) := by
  cases i with
  | prefixCb cb =>
    obtain ⟨hwf, hencode⟩ := decodeCb_canonical cb
    have hcb := hrow (decodeCb cb) hwf
    rw [hencode, shape_decodeCb] at hcb
    exact hcb
  | _ => exact hrow _ rfl

/-- The entries of the two tables for an instruction's bytes, taken and not taken (R1040, R1041). -/
def rowCosts : List Byte → Nat × Nat
  | [] => (0, 0)
  | op :: rest =>
    if op = 0xCB then (cbCosts.getD (rest.headD 0).toNat 0, cbCosts.getD (rest.headD 0).toNat 0)
    else unprefixedCosts.getD op.toNat (0, 0)

theorem tableCost_eq_rowCosts (fl : Flags) (bytes : List Byte) :
    tableCost fl bytes = if branchTaken (bytes.headD 0) fl then (rowCosts bytes).1 else (rowCosts bytes).2 := by
  cases bytes with
  | nil => exact (ite_self 0).symm
  | cons op rest =>
    by_cases hcb : op = 0xCB
    · rw [tableCost, rowCosts, if_pos hcb, if_pos hcb, ite_self]
    · rw [tableCost, rowCosts, if_neg hcb, if_neg hcb]
      rfl

theorem rowCosts_encode (i : Instr) : rowCosts (encode i) = (instrShape i).costs := by
  refine rows_induct (P := fun bytes h => rowCosts bytes = h.costs) (fun i hwf => ?_) i
  cases i with
  | prefixCb cb => exact absurd hwf Bool.false_ne_true
  | _ => rfl

/-- A row with two costs is one whose condition its opcode byte names (R306). -/
theorem branchTaken_encode (i : Instr) (fl : Flags) : (instrShape i).costs.1 = (instrShape i).costs.2 ∨
    branchTaken ((encode i).headD 0) fl = (instrShape i).taken fl := by
  refine rows_induct (P := fun bytes h => h.costs.1 = h.costs.2 ∨ branchTaken (bytes.headD 0) fl = h.taken fl) (fun i hwf => ?_) i
  cases i with
  | jrNzE8 | jrZE8 | jrNcE8 | jrCE8 | jpNzA16 | jpZA16 | jpNcA16 | jpCA16 | callNzA16 | callZA16 | callNcA16 | callCA16 | retNz | retZ
    | retNc | retC =>
    right
    rw [encode, List.headD_cons]
    rfl
  | prefixCb cb => exact absurd hwf Bool.false_ne_true
  | _ => exact .inl rfl

/-- The tables give a row the cost of its shape, by its condition (R1040, R1041). -/
theorem tableCost_encode (i : Instr) (fl : Flags) : tableCost fl (encode i) =
    if (instrShape i).taken fl then (instrShape i).costs.1 else (instrShape i).costs.2 := by
  rw [tableCost_eq_rowCosts, rowCosts_encode]
  obtain hsame | htaken := branchTaken_encode i fl
  · rw [hsame, ite_self, ite_self]
  · rw [htaken]

/-- The illegal bytes, and STOP's under its mode, are the first bytes of the rows that raise a fault. -/
theorem raises_encode (i : Instr) (s : State) :
    (encode i).headD 0 ∈ Spec.illegalBytes ∨ ((encode i).headD 0 = 0x10 ∧ s.params.stopMode = .fault) ↔
      (instrShape i).raises s = true := by
  refine rows_induct (P := fun bytes h => bytes.headD 0 ∈ Spec.illegalBytes ∨ (bytes.headD 0 = 0x10 ∧ s.params.stopMode = .fault) ↔
    h.raises s = true) (fun i hwf => ?_) i
  cases i with
  | stop n =>
    have hlegal : (0x10 : Byte) ∉ Spec.illegalBytes := by decide
    exact (or_iff_right hlegal).trans ((and_iff_right rfl).trans decide_eq_true_iff.symm)
  | illegalD3 | illegalDB | illegalDD | illegalE3 | illegalE4 | illegalEB | illegalEC | illegalED | illegalF4 | illegalFC
    | illegalFD => exact iff_of_true (.inl (by decide)) rfl
  | prefixCb cb => exact absurd hwf Bool.false_ne_true
  | _ => exact iff_of_false (not_or.mpr ⟨of_decide_eq_false rfl, fun h => absurd h.1 (of_decide_eq_false rfl)⟩) Bool.false_ne_true

/-- Settles O21: each row costs what its shape does, and the tables give it that. -/
theorem costsAreTheTables : Obligations.CostsAreTheTables := by
  unfold Obligations.CostsAreTheTables
  intro i s t hexec
  rw [exec_eq_instrShape] at hexec
  rw [Shape.run_cost (instrShape_names i) hexec, Shape.cost, tableCost_encode]
  exact if_congr (raises_encode i s).symm rfl rfl

/-! ### Whole machine cycles (R1043) -/

/-- One to six machine cycles, in T-states. -/
abbrev WholeCycles (n : Nat) : Prop := n % 4 = 0 ∧ 4 ≤ n ∧ n ≤ 24

theorem unprefixedCosts_wholeCycles {op : Byte} (hcb : op ≠ 0xCB) (hlegal : op ∉ Spec.illegalBytes) :
    WholeCycles (unprefixedCosts.getD op.toNat (0, 0)).1 ∧ WholeCycles (unprefixedCosts.getD op.toNat (0, 0)).2 := by
  revert op
  decide

theorem cbCosts_wholeCycles (cb : Byte) : WholeCycles (cbCosts.getD cb.toNat 0) := by
  revert cb
  decide

theorem tableCost_wholeCycles (fl : Flags) {op : Byte} (hlegal : op ∉ Spec.illegalBytes) (rest : List Byte) :
    WholeCycles (tableCost fl (op :: rest)) := by
  rw [tableCost]
  split
  · exact cbCosts_wholeCycles _
  · next hcb =>
    obtain ⟨htaken, hnot⟩ := unprefixedCosts_wholeCycles hcb hlegal
    dsimp only
    split
    · exact htaken
    · exact hnot

theorem encode_eq_cons (i : Instr) : ∃ op rest, encode i = op :: rest := by
  cases i <;> exact ⟨_, _, rfl⟩

/-- Where an instruction has raised a fault, it is STOP or an illegal byte, and has done nothing else (R803, R806, R940). -/
theorem ExecCase.raised {i : Instr} {s t : State} (h : ExecCase s i t) (hs : s.fault = none) (ht : t.fault ≠ none) :
    (∃ n, i = .stop n ∧ t = s.raiseFault .unmodelledStop 2) ∨
    (∃ op ∈ Spec.illegalBytes, encode i = [op] ∧ t = s.raiseFault (.illegalOpcode op) 1) := by
  cases h with
  | data hd =>
    obtain ⟨-, -, -, hfault⟩ := hd.control
    exact absurd (hfault.trans hs) ht
  | di | ei | halt => exact absurd hs ht
  | reti => exact absurd (by simpa [State.returnFromInterrupt] using hs) ht
  | stop n => exact .inl ⟨n, rfl, rfl⟩
  | illegal hop henc => exact .inr ⟨_, hop, henc, rfl⟩

/-- An instruction that completes returns one to six machine cycles; one that raises a fault returns none. -/
theorem exec_cost {i : Instr} {s t : State} (hexec : exec i s = .next t) (hs : s.fault = none) :
    (t.fault = none ∧ ∃ n, t.cost = some n ∧ WholeCycles n) ∨ (t.fault ≠ none ∧ t.cost = none) := by
  by_cases ht : t.fault = none
  · refine .inl ⟨ht, tableCost s.flags (encode i), ?_⟩
    have hraises : ¬ (instrShape i).raises s = true := fun h =>
      Shape.run_raises ((exec_eq_instrShape i s).symm.trans hexec) h ht
    rw [← raises_encode] at hraises
    obtain ⟨op, rest, hencode⟩ := encode_eq_cons i
    refine ⟨by rw [costsAreTheTables i s t hexec, if_neg hraises], ?_⟩
    rw [hencode] at hraises ⊢
    exact tableCost_wholeCycles _ (fun h => hraises (.inl h)) rest
  · refine .inr ⟨ht, ?_⟩
    obtain ⟨n, -, rfl⟩ | ⟨op, -, -, rfl⟩ := (exec_cases hexec).raised hs ht <;> rfl

@[simp] theorem State.dispatch_cost (s : State) : s.dispatch.cost = some 20 := rfl

@[simp] theorem State.dispatch_fault (s : State) : s.dispatch.fault = s.fault :=
  have ⟨_, _, _, hfault⟩ := (State.DataReach.dispatch s).control
  hfault

/-- Settles O12, by the cases of a step: a dispatch, a wake and an idle have costs of their own, an instruction what `exec_cost` says. -/
theorem stepsCostWholeMachineCycles : Obligations.StepsCostWholeMachineCycles := by
  unfold Obligations.StepsCostWholeMachineCycles
  intro s t hstep
  obtain ⟨hfault, ⟨_, _, rfl⟩ | ⟨_, _, _, rfl⟩ | ⟨_, _, rfl⟩ | ⟨_, _, u, hexec, hu⟩⟩ := step_cases hstep
  · exact .inl ⟨by simpa using hfault, 20, by simp, by decide⟩
  · exact .inl ⟨by simpa [State.wake] using hfault, 0, by simp [State.wake], by decide⟩
  · exact .inl ⟨by simpa [State.idle] using hfault, 4, by simp [State.idle], by decide⟩
  · have hcost := exec_cost hexec (by simpa using hfault)
    obtain ⟨hraised, rfl⟩ | ⟨hcompleted, rfl⟩ := hu
    · exact .inr (hcost.resolve_left fun h => hraised h.1)
    · obtain ⟨-, n, hn, hmod, -, hle⟩ := hcost.resolve_right fun h => h.1 hcompleted
      exact .inl ⟨by simpa using hcompleted, n, by simpa using hn, hmod, hle⟩

end Sys2Proof.Machine
end

section
/-! SUPPORT. The frame of an instruction on the 8-bit registers and on SP (spec/10_state.md §7): a shape writes the registers it names as
its destinations, and SP where it moves the stack or computes with SP. -/

namespace Sys2Proof.Machine

/-! ### Destinations -/

/-- The 8-bit registers, F apart, a shape may write. -/
def Shape.dests : Shape → List Reg8
  | .loadReg r _ | .loadImm r _ | .loadMem r | .incReg r | .decReg r | .rotReg _ r | .resReg _ r | .setReg _ r => [r]
  | .loadA .. | .daa | .cpl | .rotA _ => [.a]
  | .aluReg op _ | .aluMem op | .aluImm op _ => if op = .cp then [] else [.a]
  | .loadAHl _ => [.a, .h, .l]
  | .storeAHl _ | .hlSp _ | .addHl _ => [.h, .l]
  | .loadPair p _ | .incPair p | .decPair p => PairSp_regs p
  | .pop p => PairAf_regs p
  | _ => []

/-- Whether a shape may write SP. -/
def Shape.writesSp : Shape → Bool
  | .spHl | .addSp _ | .push _ | .pop _ | .call _ | .callIf .. | .ret | .retIf _ | .reti | .rst _ => true
  | .loadPair p _ | .incPair p | .decPair p => p == .sp
  | _ => false

theorem destRegs_encode (i : Instr) : destRegs (encode i) = (instrShape i).dests := by
  refine rows_induct (P := fun bytes h => destRegs bytes = h.dests) (fun i hwf => ?_) i
  cases i with
  | prefixCb cb => exact absurd hwf Bool.false_ne_true
  | _ => rfl

theorem writesSp_encode (i : Instr) : writesSp (encode i) = (instrShape i).writesSp := by
  refine rows_induct (P := fun bytes h => Machine.writesSp bytes = h.writesSp) (fun i hwf => ?_) i
  cases i with
  | prefixCb cb => exact absurd hwf Bool.false_ne_true
  | _ => rfl

/-! ### What the operations leave -/

@[simp] theorem State.reg_write16 (s : State) (x w : Word) (r : Reg8) : (s.write16 x w).reg r = s.reg r := by simp [State.write16]
@[simp] theorem State.reg_returnFromInterrupt (s : State) (r : Reg8) : s.returnFromInterrupt.reg r = s.reg r := State.reg_ret s r
@[simp] theorem State.reg_raiseFault (s : State) (x : FaultReason) (n : Nat) (r : Reg8) : (s.raiseFault x n).reg r = s.reg r := rfl

@[simp] theorem State.write16_sp (s : State) (x w : Word) : (s.write16 x w).sp = s.sp := by simp [State.write16]
@[simp] theorem State.raiseFault_sp (s : State) (x : FaultReason) (n : Nat) : (s.raiseFault x n).sp = s.sp := rfl

/-- A pair is written by its two registers (R101), so the others stay. -/
theorem State.reg_setReg_setReg_of_notMem {r p q : Reg8} (h : r ∉ [p, q]) (s : State) (v w : Byte) :
    ((s.setReg p v).setReg q w).reg r = s.reg r := by
  obtain ⟨hp, hq⟩ : r ≠ p ∧ r ≠ q := by simpa using h
  rw [State.reg_setReg, if_neg hq, State.reg_setReg, if_neg hp]

theorem State.reg_setHl_of_notMem {r : Reg8} (h : r ∉ [Reg8.h, Reg8.l]) (s : State) (w : Word) : (s.setHl w).reg r = s.reg r :=
  State.reg_setReg_setReg_of_notMem h s w.hi w.lo

theorem State.reg_setPairSp_of_notMem {r : Reg8} {p : PairSp} (h : r ∉ PairSp_regs p) (s : State) (w : Word) :
    (s.setPairSp p w).reg r = s.reg r := by
  cases p with
  | sp => rfl
  | bc | de | hl => exact State.reg_setReg_setReg_of_notMem h s w.hi w.lo

theorem State.reg_setPairAf_of_notMem {r : Reg8} {p : PairAf} (h : r ∉ PairAf_regs p) (s : State) (w : Word) :
    (s.setPairAf p w).reg r = s.reg r := by
  cases p with
  | af =>
    have ha : r ≠ .a := List.ne_of_not_mem_cons h
    exact (State.reg_setReg (s.setF w.lo) .a r w.hi).trans (if_neg ha)
  | bc | de | hl => exact State.reg_setReg_setReg_of_notMem h s w.hi w.lo

theorem State.setPairSp_sp_of_ne {p : PairSp} (h : p ≠ .sp) (s : State) (w : Word) : (s.setPairSp p w).sp = s.sp := by
  cases p with
  | sp => exact absurd rfl h
  | _ => rfl

/-- CP discards the result (R531); the other operations write A. -/
theorem State.reg_setAFlags_alu8 {op : AluOp} {r : Reg8} (h : op = .cp ∨ r ≠ .a) (s : State) (b : Byte) (c : Bool) :
    (s.setAFlags (alu8 op s.a b c)).reg r = s.reg r := by
  rw [State.reg_setAFlags]
  split
  · next hr => rw [h.resolve_right (absurd hr), hr]; rfl
  · rfl

theorem jumpIf_frame {cc : Cond} {x : Word} {m n : Nat} {s t : State} (h : jumpIf cc x m n s = .next t) :
    (∀ r, t.reg r = s.reg r) ∧ t.sp = s.sp := by
  unfold jumpIf at h
  split at h <;> cases h <;> exact ⟨fun _ => rfl, rfl⟩

theorem callIf_reg {cc : Cond} {x : Word} {s t : State} (h : callIf cc x s = .next t) (r : Reg8) : t.reg r = s.reg r := by
  unfold callIf at h
  split at h <;> cases h <;> simp

theorem returnIf_reg {cc : Cond} {s t : State} (h : returnIf cc s = .next t) (r : Reg8) : t.reg r = s.reg r := by
  unfold returnIf at h
  split at h <;> cases h <;> simp

theorem execStop_frame {s t : State} (h : execStop 0 s = .next t) : (∀ r, t.reg r = s.reg r) ∧ t.sp = s.sp := by
  unfold execStop at h
  split at h <;> cases h <;> exact ⟨fun _ => rfl, rfl⟩

/-! ### What a shape leaves -/

/-- A shape leaves the registers that are not among its destinations. -/
theorem Shape.run_keeps_regs {i : Instr} {h : Shape} (hn : h.Names i) {s t : State} (hr : h.run s = .next t) {r : Reg8}
    (hd : r ∉ h.dests) : t.reg r = s.reg r := by
  have alu : ∀ {op : AluOp}, r ∉ (if op = .cp then [] else [Reg8.a]) → op = .cp ∨ r ≠ .a := by
    intro op hop
    by_cases hcp : op = .cp
    · exact .inl hcp
    · exact .inr (by simpa [hcp] using hop)
  cases h with
  | cb op => exact hn.elim
  | jpIf cc x | jrIf cc e => exact (jumpIf_frame hr).1 r
  | callIf cc x => exact callIf_reg hr r
  | retIf cc => exact returnIf_reg hr r
  | stop => exact (execStop_frame hr).1 r
  | halt | di | ei => cases hr; rfl
  | loadPair p n | incPair p | decPair p => cases hr; exact State.reg_setPairSp_of_notMem hd s _
  | pop p => cases hr; exact (State.reg_setPairAf_of_notMem hd s.popped _).trans (State.reg_popped s r)
  | aluReg op q | aluImm op n => cases hr; exact State.reg_setAFlags_alu8 (alu hd) s _ _
  | aluMem op =>
    cases hr
    have hread := State.reg_setAFlags_alu8 (alu hd) (s.afterRead s.hl) (s.read s.hl) s.flags.c
    simpa using hread
  | storeAHl d | hlSp e | addHl p => cases hr; simp [State.reg_setHl_of_notMem hd]
  | loadAHl d =>
    obtain ⟨ha, hhl⟩ : r ≠ .a ∧ r ∉ [Reg8.h, Reg8.l] := List.ne_and_not_mem_of_not_mem_cons hd
    cases hr
    simp [State.reg_setHl_of_notMem hhl, ha]
  | loadReg q src | loadImm q n | loadMem q | incReg q | decReg q | rotReg op q | resReg b q | setReg b q =>
    have hq : r ≠ q := by simpa [Shape.dests] using hd
    cases hr
    simp [hq]
  | loadA x n | daa | cpl | rotA op =>
    have ha : r ≠ .a := by simpa [Shape.dests] using hd
    cases hr
    simp [ha]
  | _ => cases hr; simp

/-- A shape that does not write SP leaves it. -/
theorem Shape.run_keeps_sp {i : Instr} {h : Shape} (hn : h.Names i) {s t : State} (hr : h.run s = .next t)
    (hsp : h.writesSp = false) : t.sp = s.sp := by
  cases h with
  | cb op => exact hn.elim
  | spHl | addSp e | push p | pop p | call x | callIf cc x | ret | retIf cc | reti | rst x => cases hsp
  | jpIf cc x | jrIf cc e => exact (jumpIf_frame hr).2
  | stop => exact (execStop_frame hr).2
  | loadPair p n | incPair p | decPair p => cases hr; exact State.setPairSp_sp_of_ne (by simpa [Shape.writesSp] using hsp) s _
  | _ => cases hr; simp

/-- Settles O17: the registers and SP a shape may write are those the statement names for its bytes. -/
theorem onlyDestinationRegistersChange : Obligations.OnlyDestinationRegistersChange := by
  unfold Obligations.OnlyDestinationRegistersChange
  intro i s t hexec
  rw [exec_eq_instrShape] at hexec
  rw [destRegs_encode, writesSp_encode]
  have hn := instrShape_names i
  exact ⟨fun r hd => Shape.run_keeps_regs hn hexec hd, Shape.run_keeps_sp hn hexec⟩

end Sys2Proof.Machine
end

section
/-! SUPPORT. The step's other ways to go on (spec/60_exceptions.md R901 to R903, R906, R910 to R914, R940): an interrupt taken, a halted
machine that wakes or idles, and a fault raised, each as the statements write it. -/

namespace Sys2Proof.Machine

/-! ### Interrupts and HALT -/

/-- With IME = 1 and a source pending the step takes the interrupt, halted or not (R910). -/
theorem step_dispatches {s : State} (hf : s.fault = none) (hime : s.ime = true) (hp : s.pending ≠ 0) :
    step s = .next s.dispatch.elapse := by
  rw [step, hf]
  exact if_pos ⟨hp, hime⟩

/-- A halted machine with IME = 0 and a source pending wakes (R903). -/
theorem step_wakes {s : State} (hf : s.fault = none) (hh : s.halted = true) (hime : s.ime = false) (hp : s.pending ≠ 0) :
    step s = .next s.wake.elapse := by
  rw [step, hf]
  exact (if_neg (by simp [hime])).trans (if_pos ⟨hp, hh⟩)

/-- A halted machine with nothing pending idles (R902). -/
theorem step_idles {s : State} (hf : s.fault = none) (hh : s.halted = true) (hp : s.pending = 0) :
    step s = .next s.idle.elapse := by
  rw [step, hf]
  exact (if_neg (by simp [hp])).trans ((if_neg (by simp [hp])).trans (if_pos hh))

theorem State.pending_mask (s : State) : s.pending &&& 0x1F = s.pending := by
  rw [State.pending, BitVec.and_assoc]
  rfl

theorem vector_eq_ofNat (k : Nat) : vector k = BitVec.ofNat 16 (0x40 + 8 * k) := by
  rw [vector, BitVec.ofNat_add, BitVec.ofNat_mul]
  rfl

/-- Taking the interrupt of the lowest source is the statements' (R912, R913). -/
theorem State.dispatch_eq_taken (s : State) : s.dispatch = Spec.taken (lowestSource s.pending) s := by
  have htaken : Spec.taken (lowestSource s.pending) s =
      { Spec.pushed s.acknowledge s.pc with pc := BitVec.ofNat 16 (0x40 + 8 * lowestSource s.pending), cost := some 20 } := rfl
  rw [htaken, ← State.push16_eq_spec, ← vector_eq_ofNat]
  rfl

/-- Settles O9: the source taken is the lowest one pending. -/
theorem interruptIsTaken : Obligations.InterruptIsTaken := by
  unfold Obligations.InterruptIsTaken
  intro s hf hime hp
  have hlowest := lowestSource_spec (p := s.pending) (by rwa [State.pending_mask])
  rw [State.pending_mask] at hlowest
  obtain ⟨hlt, hset, hclear⟩ := hlowest
  exact ⟨lowestSource s.pending, hlt, hset, hclear, by rw [step_dispatches hf hime hp, State.dispatch_eq_taken]⟩

/-- Settles O10: the step wakes the machine or leaves it idle. -/
theorem haltedWakesOrIdles : Obligations.HaltedWakesOrIdles := by
  unfold Obligations.HaltedWakesOrIdles
  exact fun s hf hh => ⟨step_wakes hf hh, step_idles hf hh⟩

/-! ### Faults -/

theorem instrLength_eq_lengths (op : Byte) : instrLength op = Spec.lengths.getD op.toNat 0 := by
  revert op
  decide

/-- The state past the fetch is the one the statements' fetch of the table's length leaves (R308, R311). -/
theorem State.pastFetch_eq_spec (s : State) : s.pastFetch = (Spec.fetch (Spec.lengths.getD (s.read s.pc).toNat 0) s).2 := by
  rw [spec_fetch_eq, ← instrLength_eq_lengths]
  rfl

/-- A fault raised by an instruction of the length fetched leaves PC at its opcode (R940). -/
theorem State.raiseFault_pastFetch (s : State) (r : FaultReason) :
    s.pastFetch.raiseFault r (instrLength (s.read s.pc)) = { s.pastFetch with fault := some r, pc := s.pc, cost := none } := by
  rw [State.raiseFault, State.pastFetch_pc, BitVec.add_sub_cancel]

/-- The instruction that runs is encoded from the byte at PC on. -/
theorem State.head_encode_fetched (s : State) : (encode s.fetched).headD 0 = s.read s.pc := by
  obtain ⟨b1, b2, hfetched⟩ := s.fetched_eq_decodeBytes
  obtain ⟨-, hencode⟩ := decodeBytes_canonical (s.read s.pc) b1 b2
  obtain ⟨n, hn⟩ := Nat.exists_eq_add_of_le' (lengths_bounds (s.read s.pc)).1
  rw [hfetched, hencode, hn]
  rfl

theorem illegalBytes_length {op : Byte} (h : op ∈ Spec.illegalBytes) : instrLength op = 1 := by
  revert op
  decide

/-- STOP raises its fault under STOP_MODE = fault only (R803). -/
theorem stopMode_of_exec_stop {n : Byte} {s t : State} (hs : s.fault = none) (hexec : exec (.stop n) s = .next t) (ht : t.fault ≠ none) :
    s.params.stopMode = .fault := by
  cases hmode : s.params.stopMode with
  | fault => rfl
  | nop2 =>
    rw [exec_stop_nop2 n hmode] at hexec
    cases hexec
    exact absurd hs ht

/-- What an executed instruction that raised a fault has done: the byte at PC names the fault, and beside it only the fetch has changed
the state (R940, R941). -/
theorem exec_fetched_raised {s t : State} (hs : s.fault = none) (hexec : exec s.fetched s.pastFetch = .next t) (ht : t.fault ≠ none) :
    ∃ r, t = { s.pastFetch with fault := some r, pc := s.pc, cost := none } ∧
      ((r = .illegalOpcode (s.read s.pc) ∧ s.read s.pc ∈ Spec.illegalBytes) ∨
       (r = .unmodelledStop ∧ s.read s.pc = 0x10 ∧ s.params.stopMode = .fault)) := by
  have hs' : s.pastFetch.fault = none := by simpa using hs
  have hhead := s.head_encode_fetched
  obtain ⟨n, hstop, hraise⟩ | ⟨op, hop, hencode, hraise⟩ := (exec_cases hexec).raised hs' ht
  · rw [hstop] at hhead hexec
    have hbyte : s.read s.pc = 0x10 := hhead.symm
    have hmode := stopMode_of_exec_stop hs' hexec ht
    have hlen : instrLength (s.read s.pc) = 2 := by rw [hbyte]; rfl
    refine ⟨.unmodelledStop, ?_, .inr ⟨rfl, hbyte, by simpa using hmode⟩⟩
    rw [hraise, ← hlen, State.raiseFault_pastFetch]
  · rw [hencode] at hhead
    have hbyte : s.read s.pc = op := hhead.symm
    have hlen : instrLength (s.read s.pc) = 1 := by rw [hbyte, illegalBytes_length hop]
    refine ⟨.illegalOpcode op, ?_, .inl ⟨by rw [hbyte], hbyte ▸ hop⟩⟩
    rw [hraise, ← hlen, State.raiseFault_pastFetch]

/-- A step that raised a fault executed an instruction that did. -/
theorem exec_of_step_raised {s t : State} (hstep : step s = .next t) (ht : t.fault ≠ none) :
    s.fault = none ∧ exec s.fetched s.pastFetch = .next t := by
  obtain ⟨hfault, ⟨_, _, rfl⟩ | ⟨_, _, _, rfl⟩ | ⟨_, _, rfl⟩ | ⟨_, _, u, hexec, ⟨_, rfl⟩ | ⟨hcompleted, rfl⟩⟩⟩ := step_cases hstep
  · exact absurd (by simpa using hfault) ht
  · exact absurd (by simpa [State.wake] using hfault) ht
  · exact absurd (by simpa [State.idle] using hfault) ht
  · exact ⟨hfault, hexec⟩
  · exact absurd (by simpa using hcompleted) ht

/-- Settles O8: only an executed instruction raises a fault, and it has done what `exec_fetched_raised` says. -/
theorem faultsStopTheMachine : Obligations.FaultsStopTheMachine := by
  unfold Obligations.FaultsStopTheMachine
  constructor
  · intro s r hr
    rw [step, hr]
  · intro s t r hstep ht
    have hne : t.fault ≠ none := by rw [ht]; exact nofun
    obtain ⟨hs, hexec⟩ := exec_of_step_raised hstep hne
    obtain ⟨r', rfl, hr'⟩ := exec_fetched_raised hs hexec hne
    cases ht
    exact ⟨by rw [← State.pastFetch_eq_spec], hr'⟩

end Sys2Proof.Machine
end

section
/-! SUPPORT. `run_frame` (spec/60_exceptions.md R956, spec/70_reset_and_hazards.md R1042, R1043): every step but a wake returns at least 4
T-states or raises a fault, and no wake follows a wake, so two steps for each machine cycle of the frame are enough. -/

namespace Sys2Proof.Machine

/-! ### The progress of a step -/

/-- The machine may wake at no cost: it is halted and takes no interrupt (R903). -/
def State.mayWake (s : State) : Bool := s.halted && !s.ime

/-- How a step from a state without a fault goes on: it raises a fault, or wakes a machine that cannot wake again at once, or returns
at least one machine cycle. -/
inductive StepProgress (s : State) : State → Prop where
  | raised {t : State} (r : FaultReason) : t.fault = some r → t.cost = none → StepProgress s t
  | woke {t : State} : s.mayWake = true → t.mayWake = false → t.fault = none → t.cost = some 0 → StepProgress s t
  | returned {t : State} (c : Nat) : t.fault = none → t.cost = some c → 4 ≤ c → c ≤ 24 → StepProgress s t

theorem afterExec_next (u : State) : ∃ t, afterExec (.next u) = .next t := by
  rw [afterExec]
  split <;> exact ⟨_, rfl⟩

/-- A machine without a fault has a next state. -/
theorem step_answers {s : State} (hf : s.fault = none) : ∃ t, step s = .next t := by
  rw [step, hf]
  dsimp only
  split_ifs
  · exact ⟨s.dispatch.elapse, rfl⟩
  · exact ⟨s.wake.elapse, rfl⟩
  · exact ⟨s.idle.elapse, rfl⟩
  · obtain ⟨u, hexec⟩ := everyInstructionAnswersNext s.fetched s.pastFetch
    rw [hexec]
    exact afterExec_next u

theorem step_progress {s : State} (hf : s.fault = none) : ∃ t, step s = .next t ∧ StepProgress s t := by
  obtain ⟨t, hstep⟩ := step_answers hf
  refine ⟨t, hstep, ?_⟩
  obtain ⟨_, ⟨_, _, rfl⟩ | ⟨_, hime, hhalted, rfl⟩ | ⟨_, _, rfl⟩ | ⟨_, _, u, hexec, hu⟩⟩ := step_cases hstep
  · exact .returned 20 (by simpa using hf) (by simp) (by decide) (by decide)
  · exact .woke (by simp [State.mayWake, hime, hhalted]) (by simp [State.mayWake, State.wake]) (by simpa [State.wake] using hf)
      (by simp [State.wake])
  · exact .returned 4 (by simpa [State.idle] using hf) (by simp [State.idle]) (by decide) (by decide)
  · have hcost := exec_cost hexec (by simpa using hf)
    obtain ⟨hraised, rfl⟩ | ⟨hcompleted, rfl⟩ := hu
    · obtain ⟨r, hr⟩ := Option.ne_none_iff_exists'.mp hraised
      obtain ⟨-, hnone⟩ := hcost.resolve_left fun h => hraised h.1
      exact .raised r hr hnone
    · obtain ⟨-, c, hc, -, hle, hge⟩ := hcost.resolve_right fun h => h.1 hcompleted
      exact .returned c (by simpa using hcompleted) (by simpa using hc) hle hge

/-! ### Runs -/

/-- `runFor` has ended as `run_frame` must: the budget is returned, no step begun after it was, or the machine has stopped. -/
def RunEnds (fuel budget : Nat) (s : State) : Prop :=
  (∃ t n, runFor fuel budget s = .elapsed t ∧ Spec.Ran n s t ∧ budget ≤ n ∧ n < budget + 24 ∧ (budget = 0 → n = 0)) ∨
  (∃ t r, runFor fuel budget s = .stopped t (.stopped r) ∧ t.fault = some r)

theorem runEnds_zero (fuel : Nat) (s : State) : RunEnds fuel 0 s :=
  .inl ⟨s, 0, by rw [runFor], .refl s, Nat.le_refl 0, by omega, fun _ => rfl⟩

/-- A machine that has stopped ends the run. -/
theorem runEnds_of_fault {s : State} {r : FaultReason} (h : s.fault = some r) (fuel budget : Nat) :
    RunEnds (fuel + 1) (budget + 1) s :=
  .inr ⟨s, r, by rw [runFor, faultsStopTheMachine.1 s r h], h⟩

/-- A run goes on after a step with what the step has left of the budget. -/
theorem RunEnds.of_step {fuel budget : Nat} {s t : State} (hstep : step s = .next t) (hcost : t.cost.getD 0 ≤ 24)
    (ht : RunEnds fuel (budget + 1 - t.cost.getD 0) t) : RunEnds (fuel + 1) (budget + 1) s := by
  have hrun : runFor (fuel + 1) (budget + 1) s = runFor fuel (budget + 1 - t.cost.getD 0) t := by rw [runFor, hstep]
  obtain ⟨u, n, hu, hran, hle, hlt, hzero⟩ | ⟨u, r, hu, hr⟩ := ht
  · exact .inl ⟨u, _, hrun.trans hu, .step hstep hran, by omega, by omega, nofun⟩
  · exact .inr ⟨u, r, hrun.trans hu, hr⟩

/-- Two steps for each machine cycle of the budget are enough, and one more where the first may be a wake. -/
theorem runEnds_of_fuel {fuel budget : Nat} {s : State} (hf : s.fault = none)
    (hfuel : 2 * ((budget + 3) / 4) + s.mayWake.toNat ≤ fuel) : RunEnds fuel budget s := by
  induction fuel generalizing budget s with
  | zero =>
    obtain rfl : budget = 0 := by omega
    exact runEnds_zero 0 s
  | succ fuel ih =>
    cases budget with
    | zero => exact runEnds_zero _ s
    | succ budget =>
      obtain ⟨t, hstep, hprogress⟩ := step_progress hf
      refine RunEnds.of_step hstep ?_ ?_
      · cases hprogress with
        | raised r hr hc => simp [hc]
        | woke _ _ _ hc => simp [hc]
        | returned c _ hc _ hle => simpa [hc] using hle
      · cases hprogress with
        | raised r hr hc =>
          obtain ⟨k, rfl⟩ : ∃ k, fuel = k + 1 := ⟨fuel - 1, by omega⟩
          rw [hc]
          exact runEnds_of_fault hr k budget
        | woke hs ht htf hc =>
          rw [hs, Bool.toNat_true] at hfuel
          rw [hc, Option.getD_some, Nat.sub_zero]
          exact ih htf (by rw [ht, Bool.toNat_false]; omega)
        | returned c htf hc hge hle =>
          have hwake := Bool.toNat_le t.mayWake
          rw [hc, Option.getD_some]
          exact ih htf (by omega)

/-- Settles O57: a machine that has stopped ends at once, and `frameSteps` is two steps for each of a frame's cycles and one more. -/
theorem runFrameAlwaysEnds : Obligations.RunFrameAlwaysEnds := by
  unfold Obligations.RunFrameAlwaysEnds
  intro s
  have hends : RunEnds frameSteps frameTStates s := by
    cases hf : s.fault with
    | some r => exact runEnds_of_fault hf 35112 70223
    | none =>
      have hwake := Bool.toNat_le s.mayWake
      exact runEnds_of_fuel hf (by rw [frameSteps, frameTStates]; omega)
  obtain ⟨t, n, ht, hran, hle, hlt, -⟩ | hstopped := hends
  · exact .inl ⟨t, n, ht, hran, hle, hlt⟩
  · exact .inr hstopped

end Sys2Proof.Machine
end

section
/-! SUPPORT. The timer (spec/60_exceptions.md R951, R952): writes to DIV and TAC behind the default bus, what `n` counts of TIMA give, and
the timer after a step's cost. -/

namespace Sys2Proof.Machine

/-! ### The registers on the default bus -/

theorem State.write_div {s : State} {x : Word} (h : owner s.params x = .div) (v : Byte) :
    s.write x v = { s with timer := s.timer.resetDiv } := by
  have hne : owner s.params x ≠ .dmaTrigger := by rw [h]; exact nofun
  rw [State.write_eq_store hne]
  unfold owner at h
  simp only [State.store, h]

theorem State.write_tac {s : State} {x : Word} (h : owner s.params x = .tac) (v : Byte) :
    s.write x v = { s with timer := s.timer.writeTac v } := by
  have hne : owner s.params x ≠ .dmaTrigger := by rw [h]; exact nofun
  rw [State.write_eq_store hne]
  unfold owner at h
  simp only [State.store, h]

theorem owner_standard_div {p : Params} (hbus : p.bus = .standard) : owner p 0xFF04 = .div := by
  rw [owner_standard hbus]; rfl

theorem owner_standard_tac {p : Params} (hbus : p.bus = .standard) : owner p 0xFF07 = .tac := by
  rw [owner_standard hbus]; rfl

/-- Two bytes have the same speed-select bits when they agree under the mask of those bits. -/
theorem extractLsb'_eq_iff_and_three (v w : Byte) : v.extractLsb' 0 2 = w.extractLsb' 0 2 ↔ v &&& 3 = w &&& 3 := by
  have hmask : ∀ x : Byte, x &&& 3 = (x.extractLsb' 0 2).setWidth 8 := by decide
  have hback : ∀ x : Byte, x.extractLsb' 0 2 = (x &&& 3).extractLsb' 0 2 := by decide
  constructor
  · intro h
    rw [hmask v, hmask w, h]
  · intro h
    rw [hback v, hback w, h]

theorem Timer.writeTac_eq (t : Timer) (v : Byte) : t.writeTac v =
    if v &&& 3 = t.tac &&& 3 then { t with tac := v } else { t with tac := v, timaPhase := 0, tima := t.tma } := by
  rw [Timer.writeTac]
  exact if_congr (extractLsb'_eq_iff_and_three v t.tac) rfl rfl

/-! ### Counting -/

@[simp] theorem Timer.count_tma (n : Nat) (t : Timer) : (Timer.count n t).1.tma = t.tma := by
  induction n with
  | zero => rfl
  | succ n ih => rw [Timer.count]; split <;> exact ih

@[simp] theorem Timer.count_div (n : Nat) (t : Timer) : (Timer.count n t).1.div = t.div := by
  induction n with
  | zero => rfl
  | succ n ih => rw [Timer.count]; split <;> exact ih

/-- One more count moves TIMA by 1. -/
theorem Timer.count_succ_of_lt {n : Nat} {t : Timer} (h : (Timer.count n t).1.tima.toNat < 255) :
    (Timer.count (n + 1) t).1.tima = (Timer.count n t).1.tima + 1 ∧ (Timer.count (n + 1) t).2 = (Timer.count n t).2 := by
  have hne : (Timer.count n t).1.tima ≠ 0xFF := by bv_omega
  rw [Timer.count, if_neg hne]
  exact ⟨rfl, rfl⟩

/-- One more count at 0xFF overflows. -/
theorem Timer.count_succ_of_eq {n : Nat} {t : Timer} (h : (Timer.count n t).1.tima = 0xFF) :
    (Timer.count (n + 1) t).1.tima = t.tma ∧ (Timer.count (n + 1) t).2 = true := by
  rw [Timer.count, if_pos h]
  exact ⟨Timer.count_tma n t, rfl⟩

/-- Counts that do not pass 0xFF add up. -/
theorem Timer.count_of_no_overflow {n : Nat} {t : Timer} (h : t.tima.toNat + n < 256) :
    (Timer.count n t).1.tima = t.tima + BitVec.ofNat 8 n ∧ (Timer.count n t).2 = false := by
  induction n with
  | zero => exact ⟨(BitVec.add_zero t.tima).symm, rfl⟩
  | succ n ih =>
    obtain ⟨htima, hflag⟩ := ih (by omega)
    obtain ⟨hnext, hflag'⟩ := Timer.count_succ_of_lt (n := n) (t := t) (by rw [htima]; bv_omega)
    exact ⟨by rw [hnext, htima]; bv_omega, hflag'.trans hflag⟩

/-- After the count that passes 0xFF, `m` more go on from TMA, up to a second overflow. -/
theorem Timer.count_of_overflow {n m : Nat} {t : Timer} (hn : t.tima.toNat + n = 256 + m) (hm : t.tma.toNat + m < 256) :
    (Timer.count n t).1.tima = t.tma + BitVec.ofNat 8 m ∧ (Timer.count n t).2 = true := by
  have hlt := t.tima.isLt
  obtain ⟨n, rfl⟩ : ∃ k, n = k + 1 := Nat.exists_eq_succ_of_ne_zero (by omega)
  induction m generalizing n with
  | zero =>
    obtain ⟨htima, -⟩ := Timer.count_of_no_overflow (n := n) (t := t) (by omega)
    obtain ⟨hnext, hflag⟩ := Timer.count_succ_of_eq (n := n) (t := t) (by rw [htima]; bv_omega)
    exact ⟨hnext.trans (BitVec.add_zero t.tma).symm, hflag⟩
  | succ m ih =>
    obtain ⟨n, rfl⟩ : ∃ k, n = k + 1 := Nat.exists_eq_succ_of_ne_zero (by omega)
    obtain ⟨htima, hflag⟩ := ih (by omega) n (by omega)
    obtain ⟨hnext, hflag'⟩ := Timer.count_succ_of_lt (n := n + 1) (t := t) (by rw [htima]; bv_omega)
    exact ⟨by rw [hnext, htima]; bv_omega, hflag'.trans hflag⟩

/-! ### The timer after a step's cost -/

/-- While enabled, TIMA counts the periods of the prescaler that `n` T-states complete. -/
theorem Timer.advance_enabled {t : Timer} (h : t.tac.getLsbD 2 = true) (n : Nat) : t.advance n =
    Timer.count ((t.timaPhase + n) / Timer.period t.tac)
      { t.advanceDiv n with timaPhase := (t.timaPhase + n) % Timer.period t.tac } :=
  if_pos h

theorem Timer.advance_disabled {t : Timer} (h : t.tac.getLsbD 2 = false) (n : Nat) : t.advance n = (t.advanceDiv n, false) :=
  if_neg (by rw [Timer.enabled]; exact (Bool.eq_false_iff.mp h))

theorem Timer.advance_div (t : Timer) (n : Nat) : (t.advance n).1.div = t.div + BitVec.ofNat 8 ((t.divPhase + n) / 256) ∧
    (t.advance n).1.divPhase = (t.divPhase + n) % 256 := by
  cases h : t.tac.getLsbD 2 with
  | true => rw [Timer.advance_enabled h, Timer.count_div, Timer.count_divPhase]; exact ⟨rfl, rfl⟩
  | false => rw [Timer.advance_disabled h]; exact ⟨rfl, rfl⟩

/-- Periods that do not bring TIMA past 0xFF add up. -/
theorem Timer.advance_of_no_overflow {t : Timer} {n : Nat} (hon : t.tac.getLsbD 2 = true)
    (hlt : t.tima.toNat + (t.timaPhase + n) / Timer.period t.tac < 256) :
    (t.advance n).1.tima = t.tima + BitVec.ofNat 8 ((t.timaPhase + n) / Timer.period t.tac) ∧ (t.advance n).2 = false := by
  rw [Timer.advance_enabled hon]
  exact Timer.count_of_no_overflow hlt

/-- Periods that bring TIMA past 0xFF once continue from TMA. -/
theorem Timer.advance_of_overflow {t : Timer} {n m : Nat} (hon : t.tac.getLsbD 2 = true)
    (hn : t.tima.toNat + (t.timaPhase + n) / Timer.period t.tac = 256 + m) (hm : t.tma.toNat + m < 256) :
    (t.advance n).1.tima = t.tma + BitVec.ofNat 8 m ∧ (t.advance n).2 = true := by
  rw [Timer.advance_enabled hon]
  exact Timer.count_of_overflow hn hm

/-- Behind the default bus the timer takes the step's cost, and raises IF bit 2 where it overflowed. -/
theorem State.timerElapse_standard {s : State} {n : Nat} (hbus : s.params.bus = .standard) (hcost : s.cost = some n) :
    s.timerElapse = { s with timer := (s.timer.advance n).1, iflag := if (s.timer.advance n).2 then s.iflag ||| 0x04 else s.iflag } := by
  rw [State.timerElapse, hbus, hcost]
  rfl

/-- Settles O55: the writes by the owners of the two addresses; then the periods a cost completes, before and after the overflow. -/
theorem timerCountsAndReloads : Obligations.TimerCountsAndReloads := by
  unfold Obligations.TimerCountsAndReloads
  constructor
  · intro s v hbus
    rw [State.write_div (owner_standard_div hbus), State.write_tac (owner_standard_tac hbus), Timer.writeTac_eq]
    exact ⟨rfl, rfl⟩
  · rintro s n k hbus hcost rfl
    rw [State.timerElapse_standard hbus hcost]
    obtain ⟨hdiv, hphase⟩ := Timer.advance_div s.timer n
    refine ⟨fun hoff => ?_, fun hon => ?_, hdiv, hphase⟩
    · rw [Timer.advance_disabled hoff]
      exact ⟨rfl, rfl, rfl⟩
    · refine ⟨?_, fun hlt => ?_, fun hge hlt => ?_⟩
      · rw [Timer.advance_enabled hon, Timer.count_timaPhase]
      · obtain ⟨htima, hflag⟩ := Timer.advance_of_no_overflow hon hlt
        exact ⟨htima, if_neg (by rw [hflag]; exact Bool.false_ne_true)⟩
      · obtain ⟨htima, hflag⟩ := Timer.advance_of_overflow hon (Nat.add_sub_cancel' hge).symm hlt
        exact ⟨htima, if_pos hflag⟩

end Sys2Proof.Machine
end

section
/-! SUPPORT. The state after reset (spec/70_reset_and_hazards.md R1001 to R1004): both profiles meet the invariant, and the first fetch of the
one with the boot ROM reads the boot image. -/

namespace Sys2Proof.Machine

/-- Both profiles hold the environment's own memories and timer. -/
theorem State.resetNoBoot_inv {v : EnvReset} (hmem : (State.resetNoBoot v).memOk = true) (hboot : (State.resetNoBoot v).bootOk = true)
    (hphases : v.timer.PhasesOk) : (State.resetNoBoot v).Inv :=
  ⟨hmem, hboot, (by decide : (0xB0 : Byte) &&& 0x0F = 0), (by decide : (0 : Fin 3) ≠ 2), .inl rfl, hphases.1, hphases.2⟩

/-- INIT_REGS enter with F[3:0] = 0 (R1002). -/
theorem State.resetBoot_inv (r : InitRegs) {v : EnvReset} (hmem : (State.resetNoBoot v).memOk = true)
    (hboot : (State.resetNoBoot v).bootOk = true) (hphases : v.timer.PhasesOk) : (State.resetBoot r v).Inv :=
  ⟨hmem, hboot, mask_low r.f, (by decide : (0 : Fin 3) ≠ 2), .inl rfl, hphases.1, hphases.2⟩

/-- Settles O14: `State.reset` is the profile without the boot ROM, in an environment whose memories are empty and whose phases are 0. -/
theorem resetMeetsTheInvariant : Obligations.ResetMeetsTheInvariant := by
  unfold Obligations.ResetMeetsTheInvariant
  constructor
  · exact State.resetNoBoot_inv rfl rfl ⟨by decide, by decide⟩
  · intro v hmem hboot hdiv htima
    exact ⟨State.resetNoBoot_inv hmem hboot ⟨hdiv, htima⟩, fun r => State.resetBoot_inv r hmem hboot ⟨hdiv, htima⟩⟩

/-- The first fetch reads the boot image, which overlays address 0 (R222, R1004). -/
theorem State.read_pc_resetBoot (r : InitRegs) {v : EnvReset} (hbus : v.params.bus = .standard) :
    (State.resetBoot r v).read (State.resetBoot r v).pc = v.bootRom.read 0 :=
  State.read_standard_rom (s := State.resetBoot r v) hbus (by decide : (0x0000 : Word) < 0x8000)

/-- The pairs of R1001, each of its two registers. -/
theorem State.pairs_resetNoBoot (v : EnvReset) : (State.resetNoBoot v).af = 0x01B0 ∧ (State.resetNoBoot v).bc = 0x0013 ∧
    (State.resetNoBoot v).de = 0x00D8 ∧ (State.resetNoBoot v).hl = 0x014D :=
  ⟨(by decide : Word.ofBytes 0x01 (0xB0 &&& 0xF0) = 0x01B0), (by decide : Word.ofBytes 0x00 0x13 = 0x0013),
    (by decide : Word.ofBytes 0x00 0xD8 = 0x00D8), (by decide : Word.ofBytes 0x01 0x4D = 0x014D)⟩

/-- Settles O60: every value is the one reset writes. -/
theorem resetProfiles : Obligations.ResetProfiles := by
  unfold Obligations.ResetProfiles
  constructor
  · intro v
    obtain ⟨haf, hbc, hde, hhl⟩ := State.pairs_resetNoBoot v
    exact ⟨rfl, rfl, rfl, rfl, rfl, rfl, rfl, rfl, rfl, rfl, haf, hbc, hde, hhl, rfl, rfl, rfl, rfl⟩
  · intro r v
    exact ⟨rfl, rfl, rfl, rfl, rfl, rfl, rfl, rfl, rfl, rfl, rfl, rfl, rfl, rfl, State.read_pc_resetBoot r⟩

end Sys2Proof.Machine
end
